-- ==== Sys2Proof/Word.lean ====
section
/-! DEFINITION. The plain number types of the FB416: bytes, multi-byte fields, lane phases, site and region numbers. -/

namespace Sys2Proof

/-- One byte of a frame (bit 0 is the least significant bit, 00_scope 5.1). -/
abbrev Byte := BitVec 8

/-- A 16-bit field: tags, data, masks, rows, 16-bit counters. -/
abbrev Half := BitVec 16

/-- A 32-bit field: logical addresses, extended cycle counts, 32-bit counters. -/
abbrev Long := BitVec 32

/-- A column number, 0 to 4095 (R17). -/
abbrev Col := BitVec 12

/-- A timing code, 0 to 1023: a drive edge or a strobe code (R1, R19). -/
abbrev TimingCode := BitVec 10

/-- A site number, 0 to 15. -/
abbrev SiteNo := Fin 16

/-- A region number, 0 to 7. -/
abbrev RegionNo := Fin 8

/-- A lane phase, 0 to 63 (R106). -/
abbrev Phase := Fin 64

/-- A chain position, 0 to 7. -/
abbrev ChainPos := Fin 8

/-- The sixteen site numbers in site order. -/
def allSites : List SiteNo := [0, 1, 2, 3, 4, 5, 6, 7, 8, 9, 10, 11, 12, 13, 14, 15]

/-- The eight region numbers in region order. -/
def allRegions : List RegionNo := [0, 1, 2, 3, 4, 5, 6, 7]

end Sys2Proof
end

