-- ==== Sys2Proof/Config.lean ====
section
/-! DEFINITION. What is fixed when one part is made (its revision and its factory phases) and the free choice of the order in which two effects of one step are taken where the spec gives both orders. None of the three has a body: no proof can rest on a value of it. -/

namespace Sys2Proof.Config

/-- The part's revision less 1: the revision is an 8-bit number that is 1 or more, fixed when the part is made (R185). Free value, log entry 1. -/
opaque revisionLessOne : Fin 255

/-- The factory phase store: indices 0 to 15 the site samplers, 16 the spare (section 1.1, FACTORY_PHASE; R106). Free value, log entry 2. -/
opaque factoryPhase : Fin 17 → Phase

/-- Draw n of the order in which two effects of one step are taken, where the spec gives both orders (R22, R100). Free value, log entry 3. -/
opaque order : Nat → Bool

end Sys2Proof.Config
end

