-- ==== Sys2Proof/Syntax.lean ====
section
/-! DEFINITION. The commands and events the part takes, one constructor for each row of spec/opcode_table.json, and the operands they carry. -/

namespace Sys2Proof

/-- A 32-byte frame of either link: byte 0 the kind, bytes 1 to 29 the body, bytes 30 and 31 the check (R131, R154). On the return link body byte 0 is the source. -/
structure Frame where
  kind : Byte
  body : List Byte
  check : Half
  deriving DecidableEq, Repr

/-- The bytes of a CYCLE frame's body: the fields of section 10.2 as received, reserved bits included (R194). -/
structure Cycle where
  op : Byte
  flags : Byte
  setByte : Byte
  address : Long
  data : Half
  mask : Half
  number : Half
  rest : List Byte
  deriving DecidableEq, Repr

/-- The header of a CONTROL frame: byte 1, whose bits 0 to 3 are the target, and the tag (section 10.2, R194). -/
structure Ctl where
  addr : Byte
  tag : Byte
  deriving DecidableEq, Repr

/-- The words two samplers of one lane recovered in one word period: the reference sampler's and the other's (R109, R115). -/
structure WordPair where
  reference : BitVec 36
  other : BitVec 36
  deriving DecidableEq, Repr

/-- The commands and events of the part, in the order of spec/opcode_table.json. A constructor of a good downstream frame carries the bytes of the frame's body, as fields where the formats name them and as `rest`, `body` or `params` where they do not; its kind byte and its good check follow from the row. A calibration stage's row carries word periods compared in the stage whose carrier word passes R26; LANE_WORD_ERROR carries such a period whose carrier word does not; its other word is the one that the other sampler attached to the lane recovered, where one is attached (R109, log entry 14). -/
inductive Instr where
  | powerOnReset
  | crstAsserted
  | crstReleased
  | signalPresent
  | signalLost
  | idleFrame (body : List Byte)
  | alignFrame (k : Byte) (count : Byte) (rest : List Byte)
  | cycleFrame (c : Cycle)
  | exerciseFrame (seed : Half) (sequence : List Byte)
  | unknownKindFrame (kind : Byte) (body : List Byte)
  | badFrame (f : Frame)
  | entryExpiry (site : SiteNo)
  | readDataWord (site : SiteNo) (tag : Half) (data : Half)
  | statusWord (site : SiteNo) (bits : Byte)
  | holdRequestWord (site : SiteNo)
  | holdReleaseWord (site : SiteNo)
  | idleWord (site : SiteNo)
  | laneWordError (site : SiteNo) (word : WordPair)
  | calibrationTick
  | intervalCountExpiry
  | calibrationRunStart
  | trainingScanEnd (words : List WordPair)
  | shadowAgreementSuccess (words : List WordPair)
  | shadowAgreementTimeout (words : List WordPair)
  | handover
  | offlineScanEnd (words : List WordPair)
  | soakDisagreement (words : List WordPair)
  | soakSuccess (words : List WordPair)
  | handBack
  | returnFrameReceived (f : Frame)
  | returnSignalLost
  | hofInChange (asserted : Bool)
  | syqInChange (asserted : Bool)
  | returnFrameSlot
  | drainComplete
  | summaryEnqueue
  | pendingNoticeEnters
  | enumerate (c : Ctl) (p : Byte) (rest : List Byte)
  | resync (c : Ctl) (params : List Byte)
  | resetPart (c : Ctl) (params : List Byte)
  | readStatus (c : Ctl) (params : List Byte)
  | setReporting (c : Ctl) (enables : Half) (mask : Byte) (rest : List Byte)
  | clearFlags (c : Ctl) (flags : Byte) (rest : List Byte)
  | writeTable (c : Ctl) (table : Byte) (start : Byte) (count : Byte) (entries : List Byte)
  | readTable (c : Ctl) (table : Byte) (start : Byte) (rest : List Byte)
  | setSites (c : Ctl) (enable : Half) (drop : Half) (rest : List Byte)
  | readHeadStatus (c : Ctl) (first : Byte) (count : Byte) (rest : List Byte)
  | readSiteCounts (c : Ctl) (site : Byte) (chunk : Byte) (rest : List Byte)
  | readSiteAnalysis (c : Ctl) (site : Byte) (region : Byte) (chunk : Byte) (rest : List Byte)
  | openPass (c : Ctl) (number : Byte) (rest : List Byte)
  | closePass (c : Ctl) (params : List Byte)
  | calControlStart (c : Ctl) (site : Byte) (rest : List Byte)
  | calControlStop (c : Ctl) (site : Byte) (rest : List Byte)
  | calControlAbort (c : Ctl) (site : Byte) (rest : List Byte)
  | calControlRetry (c : Ctl) (site : Byte) (rest : List Byte)
  | calControlStatus (c : Ctl) (site : Byte) (rest : List Byte)
  | unknownRequest (c : Ctl) (code : Byte) (params : List Byte)
  | controlFrameNotTaken (c : Ctl) (code : Byte) (params : List Byte)
  deriving DecidableEq, Repr

end Sys2Proof
end

