-- ==== Sys2Proof/Machine/State.lean ====
section
/-! DEFINITION. The state of one FB416: every register, table, queue, counter, mode and pin the spec gives the part, as plain data, with its value after power-on reset. -/

namespace Sys2Proof.Machine

/-- No command of this block ends in a fault: the spec gives every event its effect. The type has no constructor, so a fault cannot be answered. -/
inductive Fault where
  deriving DecidableEq, Repr

/-- Why a command is refused. -/
inductive Refusal where
  /-- Raised by an arm of exec whose command has no meaning yet (no arm has); safe, since nothing is claimed of the command. -/
  | notModelled (mnemonic : String)
  deriving DecidableEq, Repr

/-- Link Receiver states (section 7.2). -/
inductive LinkState where
  | down
  | seek
  | live
  deriving DecidableEq, Repr

/-- The Link Receiver's items (section 7.2) and the input lines it reads. `candidate` is the candidate's K and the slots taken since it (R134). `signal` is what the downstream physical layer last reported (R132), `crst` whether CRST_N is asserted (R150), `syqIn` the sync request input (R140). -/
structure LinkRx where
  state : LinkState := .down
  k : Option Byte := none
  candidate : Option (Byte × Nat) := none
  position : Option Nat := none
  lastCount : Option Byte := none
  missRun : Nat := 0
  errorRun : Nat := 0
  checkErrors : Half := 0
  unknownKinds : Half := 0
  exerciseErrors : Long := 0
  signal : Bool := false
  crst : Bool := false
  syqIn : Bool := false
  deriving DecidableEq, Repr

/-- Reset causes (R186). -/
inductive ResetCause where
  | powerOn
  | chainLine
  | chainRequest
  deriving DecidableEq, Repr

/-- Eye selectors of a timing set (R1). -/
inductive Eye where
  | early
  | late
  deriving DecidableEq, Repr

/-- A timing set (R1). -/
structure TimingSet where
  drive : TimingCode := 0
  base : TimingCode := 0
  eye : Eye := .early
  deriving DecidableEq, Repr

/-- What a scramble entry's bit is taken from (R2). -/
inductive BitSource where
  | logical (n : Fin 32)
  | const0
  | const1
  deriving DecidableEq, Repr

/-- An address bit source (R2). -/
structure ScrambleEntry where
  source : BitSource := .const0
  invert : Bool := false
  deriving DecidableEq, Repr

/-- What a topology selector names (R3). -/
inductive Selector where
  | row (n : Fin 16)
  | col (n : Fin 12)
  deriving DecidableEq, Repr

/-- A region budget: spare rows and spare columns, 0 to 4 each (R62). -/
structure Budget where
  sr : Nat := 0
  sc : Nat := 0
  deriving DecidableEq, Repr

/-- A site trim (R5): signed trims in two's complement, return latency 4 to 63, lane phase. -/
structure Trim where
  early : Byte := 0
  late : Byte := 0
  latency : Nat := 16
  phase : Phase
  deriving DecidableEq, Repr

/-- The stored tables of section 1.1, FACTORY_PHASE included (R1 to R7, R62). -/
structure Tables where
  timing : Vector TimingSet 16
  scramble : Vector ScrambleEntry 31
  selector : Vector Selector 8
  topology : Vector Half 256
  region : Vector Budget 8
  trim : Vector Trim 16
  order : Vector SiteNo 16
  orderLength : Nat
  reload : Half
  soak : Half
  factory : Vector Phase 17
  deriving DecidableEq, Repr

/-- The Cycle Expander's numbering (R15) and gap counter (R16). -/
structure Expander where
  last : Half := 0
  upper : Half := 0
  start : Bool := true
  gaps : Half := 0
  deriving DecidableEq, Repr

/-- An expectation entry (R43). -/
structure Entry where
  tag : Half
  age : Byte
  expected : Half
  mask : Half
  region : RegionNo
  row : Half
  col : Col
  mark : Bool
  counted : Bool
  ext : Long
  deriving DecidableEq, Repr

/-- A fail history ring entry (R52). -/
structure RingEntry where
  ext : Long
  region : RegionNo
  row : Half
  col : Col
  failBits : Half
  mark : Bool
  deriving DecidableEq, Repr

/-- Drop causes (section 2.3). -/
inductive DropCause where
  | unrepairable
  | headFault
  deriving DecidableEq, Repr

/-- Site conditions; the drop cause is present exactly when the site is DROPPED (section 2.3). -/
inductive Condition where
  | disabled
  | enabled
  | dropped (cause : DropCause)
  deriving DecidableEq, Repr

/-- Hold statuses (R33). -/
inductive Hold where
  | free
  | pending
  | granted
  deriving DecidableEq, Repr

/-- Site commands with the fields each carries (section 2.1). R17 says that WRITE and READ commands carry the region, while section 2.1, R20, R21 and the word of section 10.4 name no region: DESIGN CHOICE, the command as the part gives it carries the region, and the word on the lane has no bits for it (log entry 29). -/
inductive SiteCommand where
  | nop
  | write (row : Half) (col : Col) (region : RegionNo) (data : Half) (drive : TimingCode)
  | read (row : Half) (col : Col) (region : RegionNo) (drive : TimingCode) (strobe : TimingCode) (tag : Half)
  | park
  | holdGrant
  deriving DecidableEq, Repr

/-- The six per-site counters of section 3.6. -/
structure Counts where
  compares : Long := 0
  fails : Half := 0
  lost : Half := 0
  skipped : Half := 0
  strays : Half := 0
  ringWrites : Half := 0
  deriving DecidableEq, Repr

/-- The four site flags (R57, R58). -/
structure SiteFlags where
  coverageGap : Bool := false
  strobeClamped : Bool := false
  tested : Bool := false
  laneDegraded : Bool := false
  deriving DecidableEq, Repr

/-- Region states and site verdicts (R64, R77). -/
inductive RegionState where
  | clean
  | repairable
  | unrepairable
  deriving DecidableEq, Repr

/-- An analysis record (R64). -/
structure Record where
  state : RegionState := .clean
  loadedRows : Nat := 0
  loadedCols : Nat := 0
  rr : Nat := 0
  rc : Nat := 0
  mustRows : List Half := []
  mustCols : List Col := []
  sparse : List (Half × Col) := []
  cause : Option (Half × Col) := none
  deriving DecidableEq, Repr

/-- Lane states (R108). -/
inductive LaneState where
  | online
  | shadowed
  | offlineCal
  | soak
  | degraded
  deriving DecidableEq, Repr

/-- All that is held per site: Site Control (R42), the Compare Unit (R61), the Repair Analyser (R87), the lane state (R108) and the command now on the command lane (R24). -/
structure Site where
  condition : Condition := .disabled
  hold : Hold := .free
  dropOn : Bool := false
  current : Byte := 0
  snapshot : Byte := 0
  changed : Bool := false
  laneErrors : Half := 0
  queue : List Entry := []
  counts : Counts := {}
  flags : SiteFlags := {}
  ring : List RingEntry := []
  records : Vector Record 8 := Vector.replicate 8 {}
  lane : LaneState := .online
  command : SiteCommand := .park
  deriving DecidableEq, Repr

/-- Spare states (R108). -/
inductive SpareState where
  | idle
  | training
  | standingIn
  | committed
  deriving DecidableEq, Repr

/-- Progress of a scan (R115): words compared, whether the phase under test has agreed so far, and the phases passed so far. -/
structure Scan where
  words : Nat := 0
  agreed : Bool := true
  passed : BitVec 64 := 0
  deriving DecidableEq, Repr

/-- What happens to the run's lane at the next word boundary (R120, R122). -/
inductive Boundary where
  | handover
  | handBack
  deriving DecidableEq, Repr

/-- The Lane Calibration Unit's part-wide items (R108, R110, R115, R119, R121). `words` counts the words compared in shadow agreement or soak, `run` the consecutive agreeing words of shadow agreement, `soakLength` the length read on entering SOAK. -/
structure Cal where
  running : Bool := false
  due : Bool := false
  count : Half
  index : Fin 16 := 0
  spare : SpareState := .idle
  target : Option SiteNo := none
  found : Option Phase := none
  working : Option Phase := none
  attempts : Nat := 0
  scan : Scan := {}
  words : Nat := 0
  run : Nat := 0
  soakLength : Nat := 0
  boundary : Option Boundary := none
  runs : Half := 0
  trainingFailures : Half := 0
  deriving DecidableEq, Repr

/-- Pass states (R89). -/
inductive PassState where
  | idle
  | opened
  | closing
  | closed
  deriving DecidableEq, Repr

/-- Pass Control's three items (R89). -/
structure Pass where
  state : PassState := .idle
  number : Byte := 0
  summary : Option SiteNo := none
  deriving DecidableEq, Repr

/-- The two sides of the transmit arbiter (R162). -/
inductive Side where
  | passThrough
  | localSide
  deriving DecidableEq, Repr

/-- The Return Merger's items (R156 to R163, R172) and the hold-off lines. Queues are oldest first. -/
structure Merger where
  fifo : List Frame := []
  responses : List Frame := []
  reports : List Frame := []
  turn : Side := .passThrough
  hofIn : Bool := false
  hofOut : Bool := false
  rawLog : Half := 0
  drops : Half := 0
  checkErrors : Half := 0
  deriving DecidableEq, Repr

/-- The eight notice flags (R165). -/
inductive NoticeFlag where
  | linkRecovered
  | headChange
  | siteDropped
  | laneDegraded
  | reportDropped
  | passClosed
  | returnOverrun
  | requestsLost
  deriving DecidableEq, Repr

/-- The Notice Unit's items: flags and mask in the flag set layout of section 10.3, the pending list oldest first, the outstanding link loss (R165 to R169). -/
structure Notices where
  flags : Byte := 0
  mask : Byte := 0
  waiting : List NoticeFlag := []
  lossOutstanding : Bool := false
  deriving DecidableEq, Repr

/-- What the part put on its outputs in the last step it took: the frame the Forwarder transmitted (the frame in hand, R143), the frame of a return frame slot (R162), and the site commands in the order they were put on their lanes (R23 to R25). -/
structure Output where
  down : Option Frame := none
  up : Option Frame := none
  commands : List (SiteNo × SiteCommand) := []
  deriving DecidableEq, Repr

/-- The state of one part. `draws` counts the draws made from Config.order (the model's own field, log entry 3). `pending` is the queue of commands that wait, first in, first out. -/
structure State where
  link : LinkRx
  chainPos : Option ChainPos
  cause : ResetCause
  revision : Byte
  tables : Tables
  expander : Expander
  sites : Vector Site 16
  cal : Cal
  pass : Pass
  ret : Merger
  notice : Notices
  out : Output
  draws : Nat
  pending : List Instr
  deriving DecidableEq, Repr

/-- The tables after power-on reset for a given factory phase store (section 1.9). -/
def Tables.powerOn (factory : Vector Phase 17) : Tables where
  timing := Vector.replicate 16 {}
  scramble := Vector.replicate 31 {}
  selector := Vector.replicate 8 (.row 0)
  topology := Vector.replicate 256 0
  region := Vector.replicate 8 {}
  trim := Vector.ofFn fun i : Fin 16 => { phase := factory.get (i.castLE (by decide)) }
  order := Vector.ofFn fun i : Fin 16 => i
  orderLength := 16
  reload := 1000
  soak := 1024
  factory := factory

/-- The state right after power-on reset (R42, R61, R87, R105, R130, R152, R173, R191 and section 1.9). -/
def State.reset : State where
  link := {}
  chainPos := none
  cause := .powerOn
  revision := BitVec.ofNat 8 (Config.revisionLessOne.val + 1)
  tables := Tables.powerOn (Vector.ofFn Config.factoryPhase)
  expander := {}
  sites := Vector.replicate 16 {}
  cal := { count := 1000 }
  pass := {}
  ret := {}
  notice := {}
  out := {}
  draws := 0
  pending := []

end Sys2Proof.Machine
end

