-- ==== Sys2Proof/Machine/Format.lean ====
section
/-! DEFINITION. Byte and bit layouts: byte order and check, frames, site command words, return words, code values (Chapter 10). -/

namespace Sys2Proof.Machine

/-- Saturating addition to a counter: once at its maximum it stays there (00_scope 5.2). -/
def satAdd {w : Nat} (c : BitVec w) (n : Nat) : BitVec w :=
  if c.toNat + n < 2 ^ w then BitVec.ofNat w (c.toNat + n) else BitVec.allOnes w

/-- A list cut or filled with zeros to n members. -/
def padTo {α : Type} (n : Nat) (zero : α) (l : List α) : List α :=
  (l ++ List.replicate (n - l.length) zero).take n

/-- A 16-bit field, most significant byte first (R193). -/
def be16 (x : Half) : List Byte := [x.extractLsb' 8 8, x.extractLsb' 0 8]

/-- A 32-bit field, most significant byte first (R193). -/
def be32 (x : Long) : List Byte :=
  [x.extractLsb' 24 8, x.extractLsb' 16 8, x.extractLsb' 8 8, x.extractLsb' 0 8]

/-- The 16-bit field whose bytes start at position i of a byte list (R193). -/
def half (l : List Byte) (i : Nat) : Half := l.getD i 0 ++ l.getD (i + 1) 0

/-- The 32-bit field whose bytes start at position i of a byte list (R193). -/
def long (l : List Byte) (i : Nat) : Long := half l i ++ half l (i + 2)

/-- One bit of the check computation: the register shifts toward bit 15, and the bit that leaves, combined with the data bit, decides whether the polynomial is combined in (R193, steps 2 and 3). -/
def crcBit (r : Half) (bit : Bool) : Half :=
  if Bool.xor (r.getLsbD 15) bit then (r <<< 1) ^^^ 0x1021 else r <<< 1

/-- One byte of the check computation, most significant bit first (R193). -/
def crcByte (r : Half) (b : Byte) : Half :=
  [7, 6, 5, 4, 3, 2, 1, 0].foldl (fun r i => crcBit r (b.getLsbD i)) r

/-- The CRC-16 of a byte string, from 0xFFFF, with no inversion (R131, R193). -/
def crc16 (l : List Byte) : Half := l.foldl crcByte 0xFFFF

/-- The check that bytes 0 to 29 of a frame call for. -/
def frameCrc (kind : Byte) (body : List Byte) : Half := crc16 (kind :: body)

/-- A frame is good when its check equals the CRC over its bytes 0 to 29 (R131). -/
def frameGood (f : Frame) : Bool := f.check == frameCrc f.kind f.body

/-- A frame of a kind whose body starts with the bytes given, the rest zeros, with a good check (R194). -/
def mkFrame (kind : Byte) (bytes : List Byte) : Frame :=
  let body := padTo 29 0 bytes
  { kind := kind, body := body, check := frameCrc kind body }

/-- The 32 bytes of a frame in the order they are sent (R131, R193). -/
def frameBytes (f : Frame) : List Byte := f.kind :: f.body ++ be16 f.check

/-- A poisoned frame: kind and body as received, the check the complement of their CRC (R144). -/
def poisoned (f : Frame) : Frame := { f with check := ~~~ (frameCrc f.kind f.body) }

/-- The IDLE frame that takes the place of a consumed CONTROL frame (R143). -/
def idleDown : Frame := mkFrame 0x00 []

/-- The position an advanced ENUMERATE carries: p + 1 for 0 to 7, else 8 (R147). -/
def advancedPosition (p : Byte) : Byte := if p.toNat < 8 then p + 1 else 8

/-- A broadcast ENUMERATE as the Forwarder sends it on: parameter byte 4 rewritten, check recomputed (R147). -/
def advanced (f : Frame) : Frame :=
  mkFrame f.kind (f.body.set 3 (advancedPosition (f.body.getD 3 0)))

/-- Downstream kind codes (section 10.2). -/
def kindIdle : Byte := 0x00
def kindAlign : Byte := 0x01
def kindCycle : Byte := 0x02
def kindControl : Byte := 0x03
def kindExercise : Byte := 0x04

/-- The bytes of a CONTROL frame (section 10.2). -/
def controlFrame (c : Ctl) (code : Byte) (params : List Byte) : Frame :=
  mkFrame kindControl (c.addr :: code :: c.tag :: params)

/-- The target of a CONTROL frame: bits 0 to 3 of byte 1 (R194). -/
def ctlTarget (c : Ctl) : Nat := (c.addr.extractLsb' 0 4).toNat

/-- The bytes of an ALIGN frame (section 10.2). -/
def alignFrameOf (k count : Byte) (rest : List Byte) : Frame := mkFrame kindAlign (k :: count :: rest)

/-- The bytes of a CYCLE frame (section 10.2). -/
def cycleFrameOf (c : Cycle) : Frame :=
  mkFrame kindCycle (c.op :: c.flags :: c.setByte :: (be32 c.address ++ be16 c.data ++ be16 c.mask ++ be16 c.number ++ c.rest))

/-- The bytes of an EXERCISE frame (section 10.2). -/
def exerciseFrameOf (seed : Half) (sequence : List Byte) : Frame :=
  mkFrame kindExercise (be16 seed ++ sequence)

/-- One return frame built by this part: kind, source, body (section 10.3). -/
def returnFrame (kind source : Byte) (bytes : List Byte) : Frame := mkFrame kind (source :: bytes)

/-- Whether the number of ones in a word is odd (R26, R195). -/
def oddOnes {w : Nat} (x : BitVec w) : Bool :=
  (List.range w).foldl (fun p i => Bool.xor p (x.getLsbD i)) false

/-- Bits 0 to 66 of a site command word; section 10.4 gives the region of R17 no bits (log entry 29). -/
def SiteCommand.payload : SiteCommand → BitVec 67
  | .nop => 0
  | .write row col _ data drive => 0#10 ++ drive ++ data ++ col ++ row ++ 1#3
  | .read row col _ drive strobe tag => strobe ++ drive ++ tag ++ col ++ row ++ 2#3
  | .park => 3
  | .holdGrant => 4

/-- A site command word: the payload with a parity bit in bit 67 that makes the number of ones odd (R195). -/
def SiteCommand.word (c : SiteCommand) : BitVec 68 :=
  (if oddOnes c.payload then 0#1 else 1#1) ++ c.payload

/-- The return words and their fields (section 2.1). -/
inductive ReturnWord where
  | idle
  | readData (tag : Half) (data : Half)
  | status (bits : Byte)
  | holdRequest
  | holdRelease
  deriving DecidableEq, Repr

/-- The check of R26 and the fields of section 10.4: none where parity does not hold or the kind code is 5 to 7. -/
def decodeReturnWord (w : BitVec 36) : Option ReturnWord :=
  if oddOnes w then
    match (w.extractLsb' 0 3).toNat with
    | 0 => some .idle
    | 1 => some (.readData (w.extractLsb' 3 16) (w.extractLsb' 19 16))
    | 2 => some (.status (w.extractLsb' 3 8))
    | 3 => some .holdRequest
    | 4 => some .holdRelease
    | _ => none
  else none

/-- Whether a return word passes the check of R26: its parity holds and its kind code is one of the five. -/
def passesCheck (w : BitVec 36) : Bool := (decodeReturnWord w).isSome

/-- Bits 0 to 34 of a return word, reserved bits zero (section 10.4). -/
def ReturnWord.payload : ReturnWord → BitVec 35
  | .idle => 0
  | .readData tag data => data ++ tag ++ 1#3
  | .status bits => 0#24 ++ bits ++ 2#3
  | .holdRequest => 3
  | .holdRelease => 4

/-- A return word with the parity bit in bit 35 that makes the number of ones odd (section 10.4). -/
def ReturnWord.word (r : ReturnWord) : BitVec 36 :=
  (if oddOnes r.payload then 0#1 else 1#1) ++ r.payload

/-- Two words of one word period agree when they are equal and each has parity that holds (R109). -/
def wordsAgree (p : WordPair) : Bool :=
  p.reference == p.other && oddOnes p.reference && oddOnes p.other

/-- The word periods that a calibration stage's row gives to compare: those whose carrier word passes R26. The others reach the part as LANE_WORD_ERROR, which counts and compares them (R127, log entry 14). -/
def passedPeriods (words : List WordPair) : List WordPair := words.filter fun p => passesCheck p.reference

/-- The bit of a flag in the flag set layout (section 10.3). -/
def NoticeFlag.bit : NoticeFlag → Nat
  | .linkRecovered => 0
  | .headChange => 1
  | .siteDropped => 2
  | .laneDegraded => 3
  | .reportDropped => 4
  | .passClosed => 5
  | .returnOverrun => 6
  | .requestsLost => 7

/-- The flag set that holds one flag. -/
def NoticeFlag.set (f : NoticeFlag) : Byte := 1#8 <<< f.bit

/-- Response statuses (00_scope 5.6). -/
inductive Status where
  | accepted
  | wrongState
  | busy
  | badIndex
  | badCode
  | chainFull
  deriving DecidableEq, Repr

/-- Status codes (section 10.5). -/
def Status.code : Status → Byte
  | .accepted => 0
  | .wrongState => 1
  | .busy => 2
  | .badIndex => 3
  | .badCode => 4
  | .chainFull => 5

/-- Site condition codes (section 10.6). -/
def Condition.code : Condition → Nat
  | .disabled => 0
  | .enabled => 1
  | .dropped .unrepairable => 2
  | .dropped .headFault => 3

/-- Hold status codes (section 10.6). -/
def Hold.code : Hold → Nat
  | .free => 0
  | .pending => 1
  | .granted => 2

/-- Pass state codes (section 10.6). -/
def PassState.code : PassState → Byte
  | .idle => 0
  | .opened => 1
  | .closing => 2
  | .closed => 3

/-- Link state codes (section 10.6). -/
def LinkState.code : LinkState → Nat
  | .down => 0
  | .seek => 1
  | .live => 2

/-- Reset cause codes (section 10.6). -/
def ResetCause.code : ResetCause → Byte
  | .powerOn => 0
  | .chainLine => 1
  | .chainRequest => 2

/-- Region state codes, and verdict codes other than NOT_TESTED (section 10.3). -/
def RegionState.code : RegionState → Nat
  | .clean => 0
  | .repairable => 1
  | .unrepairable => 2

/-- Lane state codes (section 10.6). -/
def LaneState.code : LaneState → Nat
  | .online => 0
  | .shadowed => 1
  | .offlineCal => 2
  | .soak => 3
  | .degraded => 4

/-- Spare state codes (section 10.6). -/
def SpareState.code : SpareState → Byte
  | .idle => 0
  | .training => 1
  | .standingIn => 2
  | .committed => 3

/-- A number as one byte of a layout. -/
def byteOf (n : Nat) : Byte := BitVec.ofNat 8 n

/-- A bit as a number. -/
def bitNat (b : Bool) (place : Nat) : Nat := if b then 2 ^ place else 0

/-- The site flags byte (section 10.3, SUMMARY body). -/
def SiteFlags.byte (f : SiteFlags) : Byte :=
  byteOf (bitNat f.coverageGap 0 + bitNat f.strobeClamped 1 + bitNat f.tested 2 + bitNat f.laneDegraded 3)

/-- Two columns packed in three bytes, the first in the high 12 bits (section 10.6). -/
def packCols (a b : Col) : List Byte :=
  let x : BitVec 24 := a ++ b
  [x.extractLsb' 16 8, x.extractLsb' 8 8, x.extractLsb' 0 8]

/-- A column as a two-byte field (section 10.3). -/
def colHalf (c : Col) : Half := c.setWidth 16

end Sys2Proof.Machine
end

