-- ==== Sys2Proof/Decode.lean ====
section
/-! DEFINITION. From bits to commands: the row a received downstream frame is, the row a received return word is, and their encoders (R131, R145, R193, R194, Chapter 10). The opcode table gives none of its rows any bits, so decodeTableWord answers none. -/

namespace Sys2Proof

open Machine

/-- The command that a word spells by the opcode table's bits: the table gives no row any bits (every row's fields are empty and none has fixed bits), so no word spells a command. -/
def decodeTableWord (_nbits _w : Nat) : Option Instr := none

/-- The row of a good CONTROL frame, by its request code, from its 29 body bytes (sections 10.2, 10.5, 10.6). -/
def decodeControl (b : List Byte) : Instr :=
  let c : Ctl := { addr := b.getD 0 0, tag := b.getD 2 0 }
  let p (i : Nat) : Byte := b.getD (3 + i) 0
  match (b.getD 1 0).toNat with
  | 0x01 => .enumerate c (p 0) (b.drop 4)
  | 0x02 => .resync c (b.drop 3)
  | 0x03 => .resetPart c (b.drop 3)
  | 0x04 => .readStatus c (b.drop 3)
  | 0x05 => .setReporting c (half b 3) (p 2) (b.drop 6)
  | 0x06 => .clearFlags c (p 0) (b.drop 4)
  | 0x10 => .writeTable c (p 0) (p 1) (p 2) (b.drop 6)
  | 0x11 => .readTable c (p 0) (p 1) (b.drop 5)
  | 0x20 => .setSites c (half b 3) (half b 5) (b.drop 7)
  | 0x21 => .readHeadStatus c (p 0) (p 1) (b.drop 5)
  | 0x22 => .readSiteCounts c (p 0) (p 1) (b.drop 5)
  | 0x23 => .readSiteAnalysis c (p 0) (p 1) (p 2) (b.drop 6)
  | 0x30 => .openPass c (p 0) (b.drop 4)
  | 0x31 => .closePass c (b.drop 3)
  | 0x40 =>
    match (p 0).toNat with
    | 1 => .calControlStart c (p 1) (b.drop 5)
    | 2 => .calControlStop c (p 1) (b.drop 5)
    | 3 => .calControlAbort c (p 1) (b.drop 5)
    | 4 => .calControlRetry c (p 1) (b.drop 5)
    | 5 => .calControlStatus c (p 1) (b.drop 5)
    | _ => .unknownRequest c (b.getD 1 0) (b.drop 3)
  | _ => .unknownRequest c (b.getD 1 0) (b.drop 3)

/-- The row a delivered downstream frame is: the check decides between good and bad, then the kind (R131, R141). -/
def decodeFrame (f : Frame) : Instr :=
  if frameGood f then
    match f.kind.toNat with
    | 0 => .idleFrame f.body
    | 1 => .alignFrame (f.body.getD 0 0) (f.body.getD 1 0) (f.body.drop 2)
    | 2 => .cycleFrame
        { op := f.body.getD 0 0, flags := f.body.getD 1 0, setByte := f.body.getD 2 0, address := long f.body 3
          data := half f.body 7, mask := half f.body 9, number := half f.body 11, rest := f.body.drop 13 }
    | 3 => decodeControl f.body
    | 4 => .exerciseFrame (half f.body 0) (f.body.drop 2)
    | _ => .unknownKindFrame f.kind f.body
  else .badFrame f

/-- The frame whose arrival a downstream row is; none for the rows that are no downstream frame (section 10.2). -/
def encodeFrame : Instr → Option Frame
  | .idleFrame body => some (mkFrame kindIdle body)
  | .alignFrame k count rest => some (alignFrameOf k count rest)
  | .cycleFrame c => some (cycleFrameOf c)
  | .exerciseFrame seed sequence => some (exerciseFrameOf seed sequence)
  | .unknownKindFrame kind body => some (mkFrame kind body)
  | .badFrame f => some f
  | .enumerate c p rest => some (controlFrame c 0x01 (p :: rest))
  | .resync c params => some (controlFrame c 0x02 params)
  | .resetPart c params => some (controlFrame c 0x03 params)
  | .readStatus c params => some (controlFrame c 0x04 params)
  | .setReporting c enables mask rest => some (controlFrame c 0x05 (be16 enables ++ mask :: rest))
  | .clearFlags c flags rest => some (controlFrame c 0x06 (flags :: rest))
  | .writeTable c table start count entries => some (controlFrame c 0x10 (table :: start :: count :: entries))
  | .readTable c table start rest => some (controlFrame c 0x11 (table :: start :: rest))
  | .setSites c enable drop rest => some (controlFrame c 0x20 (be16 enable ++ be16 drop ++ rest))
  | .readHeadStatus c first count rest => some (controlFrame c 0x21 (first :: count :: rest))
  | .readSiteCounts c site chunk rest => some (controlFrame c 0x22 (site :: chunk :: rest))
  | .readSiteAnalysis c site region chunk rest => some (controlFrame c 0x23 (site :: region :: chunk :: rest))
  | .openPass c number rest => some (controlFrame c 0x30 (number :: rest))
  | .closePass c params => some (controlFrame c 0x31 params)
  | .calControlStart c site rest => some (controlFrame c 0x40 (1 :: site :: rest))
  | .calControlStop c site rest => some (controlFrame c 0x40 (2 :: site :: rest))
  | .calControlAbort c site rest => some (controlFrame c 0x40 (3 :: site :: rest))
  | .calControlRetry c site rest => some (controlFrame c 0x40 (4 :: site :: rest))
  | .calControlStatus c site rest => some (controlFrame c 0x40 (5 :: site :: rest))
  | .unknownRequest c code params => some (controlFrame c code params)
  | _ => none

/-- The row a return word w from a site's carrier is; `other` is the word that the other sampler attached to the lane recovered in the same word period, where one is attached (R26, R27, R127). -/
def decodeWord (site : SiteNo) (w other : BitVec 36) : Instr :=
  match decodeReturnWord w with
  | some .idle => .idleWord site
  | some (.readData tag data) => .readDataWord site tag data
  | some (.status bits) => .statusWord site bits
  | some .holdRequest => .holdRequestWord site
  | some .holdRelease => .holdReleaseWord site
  | none => .laneWordError site { reference := w, other := other }

/-- The word whose arrival a return word row is, reserved bits zero; none for the other rows (section 10.4). -/
def encodeWord : Instr → Option (BitVec 36)
  | .idleWord _ => some ReturnWord.idle.word
  | .readDataWord _ tag data => some (ReturnWord.readData tag data).word
  | .statusWord _ bits => some (ReturnWord.status bits).word
  | .holdRequestWord _ => some ReturnWord.holdRequest.word
  | .holdReleaseWord _ => some ReturnWord.holdRelease.word
  | .laneWordError _ w => some w.reference
  | _ => none

end Sys2Proof
end

