-- ==== Sys2Proof/Machine/Ops.lean ====
section
/-! DEFINITION. Named operations over the state: sites, command lanes, counters, queue room, the derived views of stored items, the free draw. -/

namespace Sys2Proof.Machine

/-- The state a step starts from: what the last step put on the outputs is gone. -/
def State.begin (s : State) : State := { s with out := {} }

/-- The state of one site. -/
def State.site (s : State) (i : SiteNo) : Site := s.sites.get i

/-- One site replaced. -/
def State.setSite (s : State) (i : SiteNo) (x : Site) : State := { s with sites := s.sites.set i x }

/-- One site changed by a function. -/
def State.onSite (s : State) (i : SiteNo) (f : Site → Site) : State := s.setSite i (f (s.site i))

/-- Every member of a vector changed by a function. -/
def mapVector {α β : Type} {n : Nat} (f : α → β) (v : Vector α n) : Vector β n :=
  ⟨⟨v.toList.map f⟩, by simp⟩

/-- Every site changed by one function. -/
def State.onSites (s : State) (f : Site → Site) : State := { s with sites := mapVector f s.sites }

/-- An operation done for the sites 0 to 15 in site order. -/
def forSites (op : SiteNo → State → State) (s : State) : State := allSites.foldl (fun s i => op i s) s

/-- Draw k from the next on of an open order (log entry 3). -/
def State.drawAt (s : State) (k : Nat) : Bool := Config.order (s.draws + k)

/-- The next draw of an open order (log entry 3). -/
def State.draw (s : State) : Bool := s.drawAt 0

/-- The state after n draws. -/
def State.drawnBy (s : State) (n : Nat) : State := { s with draws := s.draws + n }

/-- The state after a draw. -/
def State.drawn (s : State) : State := s.drawnBy 1

/-- A command put on a site's command lane. -/
def State.send (s : State) (i : SiteNo) (c : SiteCommand) : State :=
  let s' := s.onSite i fun x => { x with command := c }
  { s' with out := { s'.out with commands := s'.out.commands ++ [(i, c)] } }

/-- A port parks: the lane goes from the last command it carried to PARK; a lane that holds PARK goes on holding it (R24). -/
def State.parkPort (s : State) (i : SiteNo) : State :=
  if (s.site i).command = .park then s else s.send i .park

/-- A move into GRANTED: one HOLD_GRANT, then PARK (R25). -/
def State.grant (s : State) (i : SiteNo) : State :=
  ((s.onSite i fun x => { x with hold := .granted }).send i .holdGrant).send i .park

/-- The number of counted entries of a queue: the counted occupancy of its site (R43). -/
def countedIn (q : List Entry) : Nat := q.countP (·.counted)

/-- The total of the counted occupancies of the sixteen sites (R55). -/
def State.countedTotal (s : State) : Nat :=
  allSites.foldl (fun n i => n + countedIn (s.site i).queue) 0

/-- The source byte of a return frame this part builds: its position, or 15 when unassigned (R146, R154). -/
def State.source (s : State) : Byte :=
  match s.chainPos with
  | some p => byteOf p.val
  | none => 15

/-- The chain position as a response reports it (R196). -/
def State.positionByte (s : State) : Byte := s.source

/-- Whether the report queue has a free place (R160). -/
def State.reportRoom (s : State) : Bool := s.ret.reports.length < 32

/-- Whether the response queue has room (R176). -/
def State.responseRoom (s : State) : Bool := s.ret.responses.length < 4

/-- Whether summaries are waiting (R98): the summary position is present. -/
def State.summariesWaiting (s : State) : Bool := s.pass.summary.isSome

/-- A record joins the report queue as its newest (R160). -/
def State.enqueueReport (s : State) (f : Frame) : State :=
  { s with ret := { s.ret with reports := s.ret.reports ++ [f] } }

/-- A response joins the response queue as its newest (R159). -/
def State.enqueueResponse (s : State) (f : Frame) : State :=
  { s with ret := { s.ret with responses := s.ret.responses ++ [f] } }

/-- SYQ_OUT: asserted while the Link Receiver is DOWN or SEEK or SYQ_IN is asserted; it holds no state of its own (R140). -/
def State.syqOut (s : State) : Bool := s.link.state != .live || s.link.syqIn

/-- A site is driving: the link LIVE, the condition ENABLED, the hold FREE (R23, R24). -/
def State.driving (s : State) (i : SiteNo) : Bool :=
  s.link.state == .live && (s.site i).condition == .enabled && (s.site i).hold == .free

/-- A port is parked (R24). -/
def State.parked (s : State) (i : SiteNo) : Bool :=
  s.link.state != .live || (s.site i).condition != .enabled || (s.site i).hold == .granted

/-- The extended cycle count: the upper count times 65536 plus the last cycle number (R15). -/
def State.extended (s : State) : Long := s.expander.upper ++ s.expander.last

/-- Whether a byte's bit is set. -/
def bitOf {w : Nat} (x : BitVec w) (i : Nat) : Bool := x.getLsbD i

/-- HEAD_FAULT, status bit 2 (section 10.4). -/
def headFault (bits : Byte) : Bool := bits.getLsbD 2

/-- The site verdict: the worst of the eight region states (R77). -/
def Site.verdict (x : Site) : RegionState :=
  if x.records.toList.any (·.state == .unrepairable) then .unrepairable
  else if x.records.toList.any (·.state == .repairable) then .repairable
  else .clean

/-- The trim entry of a site (R5). -/
def State.trim (s : State) (i : SiteNo) : Trim := s.tables.trim.get i

/-- A site's lane phase field written (R5, R122). -/
def State.setPhase (s : State) (i : SiteNo) (p : Phase) : State :=
  { s with tables := { s.tables with trim := s.tables.trim.set i { s.trim i with phase := p } } }

/-- The sampler that carries a lane (R107). -/
inductive Carrier where
  | own
  | spare
  deriving DecidableEq, Repr

/-- The carrier of a lane in each lane state (R107). -/
def LaneState.carrier : LaneState → Carrier
  | .online => .own
  | .shadowed => .own
  | .offlineCal => .spare
  | .soak => .spare
  | .degraded => .spare

/-- The phase a scan's sampler under test stands at: sixteen words at each phase from 0 (R115). -/
def Scan.phase (x : Scan) : Phase := Fin.ofNat 64 (x.words / 16)

/-- The working phase of the target's own sampler: swept by the offline scan, fixed in SOAK, absent otherwise (R106, R111). -/
def State.workingPhase (s : State) : Option Phase :=
  match s.cal.target with
  | some i =>
    match (s.site i).lane with
    | .offlineCal => some s.cal.scan.phase
    | .soak => s.cal.working
    | _ => none
  | none => none

/-- The phase of a site's own sampler: the TRIM lane phase, or the working phase in OFFLINE_CAL and SOAK (R106). -/
def State.ownPhase (s : State) (i : SiteNo) : Phase :=
  match (s.site i).lane with
  | .offlineCal => s.workingPhase.getD (s.trim i).phase
  | .soak => s.workingPhase.getD (s.trim i).phase
  | _ => (s.trim i).phase

/-- The spare's factory phase, FACTORY_PHASE index 16 (R106). -/
def State.spareFactory (s : State) : Phase := s.tables.factory.get 16

/-- The spare's phase: its factory phase while IDLE, the swept phase during the training scan, the found phase from then on (R106, R118). -/
def State.sparePhase (s : State) : Phase :=
  match s.cal.spare with
  | .idle => s.spareFactory
  | _ => s.cal.found.getD s.cal.scan.phase

/-- The old phase of the run in progress: the phase the TRIM entry of the target keeps while the run lasts (R106, R108, R117). -/
def State.oldPhase (s : State) : Option Phase := s.cal.target.map fun i => (s.trim i).phase

/-- The masked flag set: the raw flag set bit by bit with the mask (R167). -/
def State.maskedFlags (s : State) : Byte := s.notice.flags &&& s.notice.mask

end Sys2Proof.Machine
end

