-- ==== Sys2Proof/Machine/Operands.lean ====
section
/-! DEFINITION. Operand forms: the table entries of WRITE TABLE and READ TABLE, their encodings, their checks and clamps (R1 to R12, R62, R197, section 10.7). -/

namespace Sys2Proof.Machine

/-- The nine stored tables (section 1.1). -/
inductive TableId where
  | timing
  | scramble
  | selector
  | topology
  | region
  | trim
  | calOrder
  | calParam
  | factoryPhase
  deriving DecidableEq, Repr

/-- The table an identifier code names (section 10.7). -/
def tableOf (code : Byte) : Option TableId :=
  match code.toNat with
  | 1 => some .timing
  | 2 => some .scramble
  | 3 => some .selector
  | 4 => some .topology
  | 5 => some .region
  | 6 => some .trim
  | 7 => some .calOrder
  | 8 => some .calParam
  | 9 => some .factoryPhase
  | _ => none

/-- The bytes of one entry (section 10.7). -/
def TableId.entrySize : TableId → Nat
  | .timing => 5
  | .scramble => 2
  | .selector => 1
  | .topology => 2
  | .region => 2
  | .trim => 5
  | .calOrder => 1
  | .calParam => 4
  | .factoryPhase => 1

/-- The whole entries a frame's 23 entry bytes can carry (section 10.7, R8). -/
def TableId.perFrame (t : TableId) : Nat := 23 / t.entrySize

/-- The last index of a table (section 1.1). -/
def TableId.lastIndex : TableId → Nat
  | .timing => 15
  | .scramble => 30
  | .selector => 7
  | .topology => 255
  | .region => 7
  | .trim => 15
  | .calOrder => 16
  | .calParam => 0
  | .factoryPhase => 16

/-- The tables locked while the pass is OPEN or CLOSING (R10). -/
def TableId.lockedInPass : TableId → Bool
  | .scramble => true
  | .selector => true
  | .topology => true
  | .region => true
  | _ => false

/-- A number brought to the nearest limit of its range (R9). -/
def clampNat (low high x : Nat) : Nat := if x < low then low else if high < x then high else x

/-- Whether a number is changed by its clamp (R9). -/
def outside (low high x : Nat) : Bool := decide (x < low) || decide (high < x)

/-- An eye selector code (section 10.7). -/
def eyeOf (b : Byte) : Option Eye := if b = 0 then some .early else if b = 1 then some .late else none

/-- A scramble source code (section 10.7). -/
def sourceOf (b : Byte) : Option BitSource :=
  if b.toNat < 32 then some (.logical (Fin.ofNat 32 b.toNat))
  else if b = 0x40 then some .const0
  else if b = 0x41 then some .const1
  else none

/-- A topology selector code (section 10.7). -/
def selectorOf (b : Byte) : Option Selector :=
  if b.toNat < 16 then some (.row (Fin.ofNat 16 b.toNat))
  else if b.toNat < 28 then some (.col (Fin.ofNat 12 (b.toNat - 16)))
  else none

/-- The lane check of R11: the site's lane is ONLINE and the spare is not TRAINING on it. -/
def State.laneCheck (s : State) (i : SiteNo) : Bool :=
  (s.site i).lane == .online && !(s.cal.spare == .training && s.cal.target == some i)

/-- One entry written: the state after it and whether a field was clamped, or the status it is refused with (R9). -/
abbrev Written := Except Status (State × Bool)

/-- A TIMING entry (R1). -/
def State.writeTiming (s : State) (index : Nat) (b : List Byte) : Written :=
  match eyeOf (b.getD 4 0) with
  | none => .error .badCode
  | some eye =>
    let drive := (half b 0).toNat
    let base := (half b 2).toNat
    let t : TimingSet :=
      { drive := BitVec.ofNat 10 (clampNat 0 1023 drive), base := BitVec.ofNat 10 (clampNat 0 1023 base), eye := eye }
    .ok ({ s with tables := { s.tables with timing := s.tables.timing.set (Fin.ofNat 16 index) t } },
      outside 0 1023 drive || outside 0 1023 base)

/-- A SCRAMBLE entry (R2). -/
def State.writeScramble (s : State) (index : Nat) (b : List Byte) : Written :=
  match sourceOf (b.getD 0 0) with
  | none => .error .badCode
  | some src =>
    .ok ({ s with tables := { s.tables with
      scramble := s.tables.scramble.set (Fin.ofNat 31 index) { source := src, invert := bitOf (b.getD 1 0) 0 } } }, false)

/-- A SELECTOR entry (R3). -/
def State.writeSelector (s : State) (index : Nat) (b : List Byte) : Written :=
  match selectorOf (b.getD 0 0) with
  | none => .error .badCode
  | some x =>
    .ok ({ s with tables := { s.tables with selector := s.tables.selector.set (Fin.ofNat 8 index) x } }, false)

/-- A TOPOLOGY entry (R4). -/
def State.writeTopology (s : State) (index : Nat) (b : List Byte) : Written :=
  .ok ({ s with tables := { s.tables with topology := s.tables.topology.set (Fin.ofNat 256 index) (half b 0) } }, false)

/-- A REGION entry (R62). -/
def State.writeRegion (s : State) (index : Nat) (b : List Byte) : Written :=
  let sr := (b.getD 0 0).toNat
  let sc := (b.getD 1 0).toNat
  .ok ({ s with tables := { s.tables with
    region := s.tables.region.set (Fin.ofNat 8 index) { sr := clampNat 0 4 sr, sc := clampNat 0 4 sc } } },
    outside 0 4 sr || outside 0 4 sc)

/-- A TRIM entry: KEEP leaves the lane phase; VALUE passes the lane check before its phase is clamped and applied (R5, R9, R11, R197). -/
def State.writeTrim (s : State) (index : Nat) (b : List Byte) : Written :=
  let i : SiteNo := Fin.ofNat 16 index
  let latency := (b.getD 2 0).toNat
  let phase := (b.getD 4 0).toNat
  let t : Trim := { s.trim i with early := b.getD 0 0, late := b.getD 1 0, latency := clampNat 4 63 latency }
  let put (t : Trim) : State := { s with tables := { s.tables with trim := s.tables.trim.set i t } }
  match (b.getD 3 0).toNat with
  | 0 =>
    if s.laneCheck i then
      .ok (put { t with phase := Fin.ofNat 64 (clampNat 0 63 phase) }, outside 4 63 latency || outside 0 63 phase)
    else .error .busy
  | 1 => .ok (put t, outside 4 63 latency)
  | _ => .error .badCode

/-- A CAL_ORDER entry: a site number at indices 0 to 15, the order length at index 16 (R6). -/
def State.writeOrder (s : State) (index : Nat) (b : List Byte) : Written :=
  let x := (b.getD 0 0).toNat
  if index = 16 then
    .ok ({ s with tables := { s.tables with orderLength := clampNat 1 16 x } }, outside 1 16 x)
  else if 15 < x then .error .badIndex
  else
    .ok ({ s with tables := { s.tables with order := s.tables.order.set (Fin.ofNat 16 index) (Fin.ofNat 16 x) } }, false)

/-- The CAL_PARAM entry (R7). -/
def State.writeParam (s : State) (b : List Byte) : Written :=
  let reload := (half b 0).toNat
  let soak := (half b 2).toNat
  .ok ({ s with tables := { s.tables with
    reload := BitVec.ofNat 16 (clampNat 1 65535 reload), soak := BitVec.ofNat 16 (clampNat 256 4096 soak) } },
    outside 1 65535 reload || outside 256 4096 soak)

/-- One entry of a WRITE TABLE at an index: the index check, then the table's own checks and clamps (R9). -/
def State.writeEntry (s : State) (t : TableId) (index : Nat) (b : List Byte) : Written :=
  if t.lastIndex < index then .error .badIndex
  else match t with
    | .timing => s.writeTiming index b
    | .scramble => s.writeScramble index b
    | .selector => s.writeSelector index b
    | .topology => s.writeTopology index b
    | .region => s.writeRegion index b
    | .trim => s.writeTrim index b
    | .calOrder => s.writeOrder index b
    | .calParam => s.writeParam b
    | .factoryPhase => .error .badCode

/-- What entry processing leaves: the state, the status, the count applied and the CLAMPED indication (R9). -/
structure WriteResult where
  state : State
  status : Status
  applied : Nat
  clamped : Bool

/-- The entries of a WRITE TABLE in the order they are carried; the first refused entry stops the request (R9). -/
def State.writeEntries (s : State) (t : TableId) : Nat → Nat → List Byte → Nat → Bool → WriteResult
  | 0, _, _, applied, clamped => { state := s, status := .accepted, applied := applied, clamped := clamped }
  | n + 1, index, bytes, applied, clamped =>
    match s.writeEntry t index (bytes.take t.entrySize) with
    | .error e => { state := s, status := e, applied := applied, clamped := clamped }
    | .ok (s', c) => s'.writeEntries t n (index + 1) (bytes.drop t.entrySize) (applied + 1) (clamped || c)

/-- A WRITE TABLE request: the three whole-request checks in order, then the entries (R8, R9, R10). -/
def State.writeTable (s : State) (inPass : Bool) (table start count : Byte) (entries : List Byte) : WriteResult :=
  match tableOf table with
  | none => { state := s, status := .badCode, applied := 0, clamped := false }
  | some t =>
    if t = .factoryPhase then { state := s, status := .badCode, applied := 0, clamped := false }
    else if t.lockedInPass && inPass then { state := s, status := .wrongState, applied := 0, clamped := false }
    else if t.perFrame < count.toNat then { state := s, status := .badCode, applied := 0, clamped := false }
    else s.writeEntries t count.toNat start.toNat entries 0 false

/-- A scramble source as its code (section 10.7). -/
def BitSource.code : BitSource → Byte
  | .logical n => byteOf n.val
  | .const0 => 0x40
  | .const1 => 0x41

/-- A selector as its code (section 10.7). -/
def Selector.code : Selector → Byte
  | .row n => byteOf n.val
  | .col n => byteOf (n.val + 16)

/-- An eye selector as its code (section 10.7). -/
def Eye.code : Eye → Byte
  | .early => 0
  | .late => 1

/-- One entry as READ TABLE returns it, in the encoding of WRITE TABLE (R12, R197). -/
def State.readEntry (s : State) (t : TableId) (index : Nat) : List Byte :=
  match t with
  | .timing =>
    let x := s.tables.timing.get (Fin.ofNat 16 index)
    be16 (x.drive.setWidth 16) ++ be16 (x.base.setWidth 16) ++ [x.eye.code]
  | .scramble =>
    let x := s.tables.scramble.get (Fin.ofNat 31 index)
    [x.source.code, byteOf (bitNat x.invert 0)]
  | .selector => [(s.tables.selector.get (Fin.ofNat 8 index)).code]
  | .topology => be16 (s.tables.topology.get (Fin.ofNat 256 index))
  | .region =>
    let x := s.tables.region.get (Fin.ofNat 8 index)
    [byteOf x.sr, byteOf x.sc]
  | .trim =>
    let x := s.trim (Fin.ofNat 16 index)
    [x.early, x.late, byteOf x.latency, 0, byteOf x.phase.val]
  | .calOrder =>
    if index = 16 then [byteOf s.tables.orderLength]
    else [byteOf (s.tables.order.get (Fin.ofNat 16 index)).val]
  | .calParam => be16 s.tables.reload ++ be16 s.tables.soak
  | .factoryPhase => [byteOf (s.tables.factory.get (Fin.ofNat 17 index)).val]

/-- The number of entries a READ TABLE returns from a start index: as many whole entries as fit, up to the last index (R12). -/
def TableId.readCount (t : TableId) (start : Nat) : Nat := min t.perFrame (t.lastIndex + 1 - start)

/-- A READ TABLE request: status and data (R12). -/
def State.readTable (s : State) (table start : Byte) : Status × List Byte :=
  match tableOf table with
  | none => (.badCode, [])
  | some t =>
    if t.lastIndex < start.toNat then (.badIndex, [])
    else
      let n := t.readCount start.toNat
      (.accepted, start :: byteOf n :: ((List.range n).map fun j => s.readEntry t (start.toNat + j)).flatten)

end Sys2Proof.Machine
end

