-- ==== Sys2Proof/Machine/Flags.lean ====
section
/-! DEFINITION. Notice flags and notices (R165 to R168), the coverage and site flags a loss sets (R46, R57), and the summaries that hold the first claim on the report queue (R98 to R101). -/

namespace Sys2Proof.Machine

/-- A NOTICE record, built from the flags as they stand (R167, section 10.3). -/
def State.noticeFrame (s : State) (f : NoticeFlag) : Frame :=
  returnFrame 0x82 s.source [byteOf f.bit, s.notice.flags, s.maskedFlags]

/-- A notice that becomes due: it enters the report queue at once, or joins the pending list, or is absorbed by its entry there (R168). -/
def State.noticeDue (s : State) (f : NoticeFlag) : State :=
  if s.reportRoom && !s.summariesWaiting && s.notice.waiting.isEmpty then s.enqueueReport (s.noticeFrame f)
  else if f ∈ s.notice.waiting then s
  else { s with notice := { s.notice with waiting := s.notice.waiting ++ [f] } }

/-- A notice flag set: from clear to set it makes a notice due when its mask bit is set; set again it has no effect (R165, R166). -/
def State.raiseFlag (s : State) (f : NoticeFlag) : State :=
  if bitOf s.notice.flags f.bit then s
  else
    let s' : State := { s with notice := { s.notice with flags := s.notice.flags ||| f.set } }
    if bitOf s.notice.mask f.bit then s'.noticeDue f else s'

/-- Flags cleared; pending notices stay (R170). -/
def State.clearNoticeFlags (s : State) (set : Byte) : State :=
  { s with notice := { s.notice with flags := s.notice.flags &&& ~~~ set } }

/-- The oldest pending notice takes a free place when no summary waits (R168). -/
def State.admitNotice (s : State) : State :=
  match s.notice.waiting with
  | [] => s
  | f :: rest =>
    if s.reportRoom && !s.summariesWaiting then
      ({ s with notice := { s.notice with waiting := rest } } : State).enqueueReport (s.noticeFrame f)
    else s

/-- The oldest pending notices take the places that are free, at most n of them (R168). -/
def State.admitNotices (s : State) : Nat → State
  | 0 => s
  | n + 1 => s.admitNotice.admitNotices n

/-- Counted entries lost at a site: the lost count rises by one for each and COVERAGE_GAP is set; uncounted entries change nothing (R46). -/
def Site.losing (x : Site) (gone : List Entry) : Site :=
  let n := countedIn gone
  if n = 0 then x
  else { x with
    counts := { x.counts with lost := satAdd x.counts.lost n }
    flags := { x.flags with coverageGap := true } }

/-- A SUMMARY record, built from the site as it stands (R99, section 10.3). -/
def State.summaryFrame (s : State) (i : SiteNo) : Frame :=
  let x := s.site i
  let verdict : Nat := if x.flags.tested then x.verdict.code else 3
  let regions : Half := BitVec.ofNat 16
    (allRegions.foldl (fun n g => n + (x.records.get g).state.code * 4 ^ g.val) 0)
  returnFrame 0x84 s.source
    ([byteOf i.val, s.pass.number, byteOf verdict] ++ be16 regions ++
     [byteOf x.condition.code, x.flags.byte] ++ be32 x.counts.compares ++ be16 x.counts.fails ++
     be16 x.counts.lost ++ be16 x.counts.skipped ++ be16 x.counts.strays)

/-- The pass becomes CLOSED with the summary of site 15 enqueued: the position becomes absent, the first claim ends and pending notices take free places, then PASS_CLOSED is set (R101, R168). -/
def State.passClosed (s : State) : State :=
  let s₁ : State := { s with pass := { s.pass with state := .closed, summary := none } }
  (s₁.admitNotices s₁.notice.waiting.length).raiseFlag .passClosed

/-- The summary of the site at the summary position takes a free place, and the position moves on (R98, R101). -/
def State.enqueueSummary (s : State) : State :=
  match s.pass.summary with
  | none => s
  | some i =>
    if s.reportRoom then
      let s₁ := s.enqueueReport (s.summaryFrame i)
      if i = 15 then s₁.passClosed
      else { s₁ with pass := { s₁.pass with summary := some (i + 1) } }
    else s

/-- Summaries take free places, at most n of them (R98). -/
def State.enqueueSummaries (s : State) : Nat → State
  | 0 => s
  | n + 1 => s.enqueueSummary.enqueueSummaries n

/-- The drain is in progress (R96). -/
def State.draining (s : State) : Bool := s.pass.state == .closing && s.pass.summary.isNone

/-- The drain is complete: it is in progress and no counted entry is left in any queue (R96). -/
def State.drainDone (s : State) : Bool := s.draining && s.countedTotal == 0

/-- The end of the drain: the summary position becomes site 0 and as many summaries as there are free places enter at once (R96, R98). -/
def State.beginSummaries (s : State) : State :=
  ({ s with pass := { s.pass with summary := some 0 } } : State).enqueueSummaries 16

/-- The report of R55 to Pass Control: a drain that has no counted entry left ends (R96). -/
def State.settleDrain (s : State) : State := if s.drainDone then s.beginSummaries else s

/-- A freed place of the report queue goes to the waiting summary, else to the oldest pending notice (R160). -/
def State.fillPlace (s : State) : State :=
  if s.summariesWaiting then s.enqueueSummary else s.admitNotice

end Sys2Proof.Machine
end

