-- ==== Sys2Proof/Machine/Analysis.lean ====
section
/-! DEFINITION. Repair analysis of one record: the taking of a counted fail (R68 to R76) and the loading of a record (R80). -/

namespace Sys2Proof.Machine

/-- The row count of a row: the sparse pairs with that row (R64). -/
def Record.rowCount (r : Record) (x : Half) : Nat := r.sparse.countP (·.1 == x)

/-- The column count of a column (R64). -/
def Record.colCount (r : Record) (y : Col) : Nat := r.sparse.countP (·.2 == y)

/-- A cell is covered when its row or its column is in a must list (R64). -/
def Record.covered (r : Record) (p : Half × Col) : Bool := r.mustRows.contains p.1 || r.mustCols.contains p.2

/-- A row repair committed in the trial; none when rr is 0 (R71). -/
def Record.commitRow (r : Record) (x : Half) : Option Record :=
  if r.rr = 0 then none
  else some { r with
    rr := r.rr - 1
    mustRows := r.mustRows ++ [x]
    sparse := r.sparse.filter (·.1 != x) }

/-- A column repair committed in the trial; none when rc is 0 (R71). -/
def Record.commitCol (r : Record) (y : Col) : Option Record :=
  if r.rc = 0 then none
  else some { r with
    rc := r.rc - 1
    mustCols := r.mustCols ++ [y]
    sparse := r.sparse.filter (·.2 != y) }

/-- The cascade: rows before columns, oldest pair first, until a scan finds nothing to repair (R74). Each forced repair spends one spare, so rr + rc + 1 scans are enough. -/
def Record.cascade : Nat → Record → Option Record
  | 0, r => some r
  | n + 1, r =>
    match r.sparse.find? fun p => r.rc < r.rowCount p.1 with
    | some p => (r.commitRow p.1).bind (Record.cascade n)
    | none =>
      match r.sparse.find? fun p => r.rr < r.colCount p.2 with
      | some p => (r.commitCol p.2).bind (Record.cascade n)
      | none => some r

/-- The cascade of a record, with as many scans as its budgets can call for (R74). -/
def Record.settle (r : Record) : Option Record := r.cascade (r.rr + r.rc + 1)

/-- The row test, the column test or the adding of the pair, with the cascade where a repair was committed (R72, R73, R74); none is a proof that the region is unrepairable. -/
def Record.trial (r : Record) (p : Half × Col) : Option Record :=
  if r.rc < r.rowCount p.1 + 1 then (r.commitRow p.1).bind Record.settle
  else if r.rr < r.colCount p.2 + 1 then (r.commitCol p.2).bind Record.settle
  else some { r with sparse := r.sparse ++ [p] }

/-- The bound of R75: at most 2 × rr × rc pairs. -/
def Record.inBound (r : Record) : Bool := r.sparse.length ≤ 2 * r.rr * r.rc

/-- The three checks that end the processing with the record unchanged (R70). -/
def Record.ignores (r : Record) (p : Half × Col) : Bool :=
  r.state == .unrepairable || r.covered p || r.sparse.contains p

/-- The outcome of a trial: kept when it is within the bound, else the record as before the fail with the cause recorded (R75, R76). -/
def Record.outcome (r : Record) (p : Half × Col) : Option Record → Record
  | some t => if t.inBound then { t with state := .repairable } else { r with state := .unrepairable, cause := some p }
  | none => { r with state := .unrepairable, cause := some p }

/-- The taking of one counted fail (R68, R70 to R76). -/
def Record.take (r : Record) (p : Half × Col) : Record :=
  if r.ignores p then r else r.outcome p (r.trial p)

/-- A record loaded with a region's budgets (R80). -/
def Record.load (b : Budget) : Record :=
  { loadedRows := b.sr, loadedCols := b.sc, rr := b.sr, rc := b.sc }

/-- A site's records with one counted fail taken into the record of its region (R68). -/
def Site.takeFail (x : Site) (g : RegionNo) (p : Half × Col) : Site :=
  { x with records := x.records.set g ((x.records.get g).take p) }

/-- All eight records of a site loaded from the region table (R80). -/
def Site.loadRecords (x : Site) (region : Vector Budget 8) : Site :=
  { x with records := mapVector Record.load region }

end Sys2Proof.Machine
end

