-- ==== Sys2Proof/Machine/Calibration.lean ====
section
/-! DEFINITION. Return lanes and sampler calibration (Chapter 6): the interval timer, the choice of the lane, the scan, the stages of a run, its ends, and the meanings of the calibration events. -/

namespace Sys2Proof.Machine

/-- One word period of a scan compared (R115): at the sixteenth word of a phase the phase passes when all sixteen agreed. A scan takes no word after its 1024th. -/
def Scan.compare (x : Scan) (p : WordPair) : Scan :=
  if 1024 ≤ x.words then x
  else
    let ok := x.agreed && wordsAgree p
    if x.words % 16 = 15 then
      { words := x.words + 1
        agreed := true
        passed := if ok then x.passed ||| (1#64 <<< (x.words / 16)) else x.passed }
    else { x with words := x.words + 1, agreed := ok }

/-- The length of the run of passing phases that starts at phase p, looking at n phases at most (R116). -/
def runLength (passed : BitVec 64) : Nat → Nat → Nat
  | _, 0 => 0
  | p, n + 1 => if passed.getLsbD p then runLength passed (p + 1) n + 1 else 0

/-- The window among start phases below n: the longest run of consecutive passing phases, the lowest start among equals; start and length (R116). -/
def windowBelow (passed : BitVec 64) : Nat → Nat × Nat
  | 0 => (0, 0)
  | n + 1 =>
    let best := windowBelow passed n
    let len := runLength passed n (64 - n)
    if best.2 < len then (n, len) else best

/-- The found phase of a scan: none when the window is shorter than 6 phases, else its start plus the whole part of (length - 1) / 2 (R116). -/
def foundPhase (passed : BitVec 64) : Option Phase :=
  let w := windowBelow passed 64
  if w.2 < 6 then none else some (Fin.ofNat 64 (w.1 + (w.2 - 1) / 2))

/-- The lane state of a site changed. -/
def State.setLane (s : State) (i : SiteNo) (l : LaneState) : State := s.onSite i fun x => { x with lane := l }

/-- The spare becomes IDLE, is detached and stands at its factory phase; the target is absent, the attempt count 0 and nothing of the run is left (R118, R122, R124). -/
def State.releaseSpare (s : State) : State :=
  { s with cal := { s.cal with
      spare := .idle, target := none, found := none, working := none, attempts := 0
      scan := {}, words := 0, run := 0, soakLength := 0, boundary := none } }

/-- A position of the order table is eligible when its site is ENABLED and its lane ONLINE (R114). -/
def State.eligible (s : State) (i : SiteNo) : Bool :=
  (s.site i).condition == .enabled && (s.site i).lane == .online

/-- The site an order position names (R6). -/
def State.orderAt (s : State) (p : Nat) : SiteNo := s.tables.order.get (Fin.ofNat 16 p)

/-- The walk of the order table: the first eligible position from the rotation index on, n positions examined at most (R114). -/
def State.walk (s : State) : Option Nat :=
  let n := s.tables.orderLength
  ((List.range n).map fun j => (s.cal.index.val + j) % n).find? fun p => s.eligible (s.orderAt p)

/-- A run starts on a target: the spare is TRAINING on its lane, the attempt count 0, the training scan begins (R117). -/
def State.startRun (s : State) (i : SiteNo) : State :=
  { s with cal := { s.cal with
      spare := .training, target := some i, found := none, working := none, attempts := 0
      scan := {}, words := 0, run := 0, soakLength := 0, boundary := none } }

/-- A start is attempted: with the rotation RUNNING, the due flag set and the spare IDLE, the walk starts a run or finds no eligible position; the due flag is cleared either way (R113, R114). -/
def State.attemptRun (s : State) : State :=
  if s.cal.running && s.cal.due && s.cal.spare == .idle then
    match s.walk with
    | some p =>
      (({ s with cal := { s.cal with due := false, index := Fin.ofNat 16 ((p + 1) % s.tables.orderLength) } } : State)).startRun
        (s.orderAt p)
    | none => { s with cal := { s.cal with due := false } }
  else s

/-- The tick that takes the interval count from 1 to 0: the count is reloaded at once, the due flag is set, and a start is attempted (R110, R113). -/
def State.intervalExpiry (s : State) : State :=
  ({ s with cal := { s.cal with count := s.tables.reload, due := true } } : State).attemptRun

/-- One calibration tick (R110). -/
def State.tick (s : State) : State :=
  if s.cal.running then
    if s.cal.count.toNat ≤ 1 then s.intervalExpiry
    else { s with cal := { s.cal with count := s.cal.count - 1 } }
  else s

/-- The end of a run without success: the lane is ONLINE on its own sampler at the old phase, the spare is released, and a waiting due flag starts the next attempt (R118, R124, R113). -/
def State.endRun (s : State) : State :=
  match s.cal.target with
  | some i => ((s.setLane i .online).releaseSpare).attemptRun
  | none => s

/-- A run that ends in training: the training-failure count rises by 1 (R118, R119). -/
def State.trainingFailure (s : State) : State :=
  ({ s with cal := { s.cal with trainingFailures := satAdd s.cal.trainingFailures 1 } } : State).endRun

/-- The hand-back: own sampler carrier at its working phase, lane ONLINE, phase written to TRIM, spare released, calibration count raised, next attempt (R122). -/
def State.completeRun (s : State) (i : SiteNo) : State :=
  let s₁ := (s.setPhase i (s.cal.working.getD (s.trim i).phase)).setLane i .online
  (({ s₁ with cal := { s₁.cal with runs := satAdd s₁.cal.runs 1 } } : State).releaseSpare).attemptRun

/-- An offline scan begins on the target's lane from working phase 0 (R120, R123, R125). -/
def State.beginOffline (s : State) (i : SiteNo) : State :=
  let s₁ := s.setLane i .offlineCal
  { s₁ with cal := { s₁.cal with
      spare := .standingIn, working := none, scan := {}, words := 0, run := 0, soakLength := 0, boundary := none } }

/-- An attempt failure: the attempt count rises; at 1 or 2 a new offline scan begins, at 3 the lane is DEGRADED and the spare COMMITTED, with LANE_DEGRADED and LANE_DEGRADED_IN_PASS set (R123). -/
def State.attemptFailure (s : State) (i : SiteNo) : State :=
  let s₁ : State := { s with cal := { s.cal with attempts := s.cal.attempts + 1 } }
  if s₁.cal.attempts < 3 then s₁.beginOffline i
  else
    let s₂ := s₁.onSite i fun x => { x with lane := .degraded, flags := { x.flags with laneDegraded := true } }
    ({ s₂ with cal := { s₂.cal with
        spare := .committed, working := none, scan := {}, words := 0, run := 0, soakLength := 0, boundary := none } } : State).raiseFlag
      .laneDegraded

/-- The stages of a run (section 6.6). -/
inductive Stage where
  | trainingScan (i : SiteNo)
  | shadow (i : SiteNo)
  | offlineScan (i : SiteNo)
  | soak (i : SiteNo)
  | none
  deriving DecidableEq, Repr

/-- The stage the run in progress is in, from the spare state and the target's lane state (R108). -/
def State.stage (s : State) : Stage :=
  match s.cal.target with
  | some i =>
    match s.cal.spare, (s.site i).lane with
    | .training, .online => .trainingScan i
    | .training, .shadowed => .shadow i
    | .standingIn, .offlineCal => .offlineScan i
    | .standingIn, .soak => .soak i
    | _, _ => .none
  | Option.none => .none

/-- The scan in progress with the words of a list of word periods compared. -/
def State.scanWords (s : State) (words : List WordPair) : State :=
  { s with cal := { s.cal with scan := words.foldl Scan.compare s.cal.scan } }

/-- The training scan compares words; at its 1024th word it ends with a found phase, the lane SHADOWED, or as a training failure (R118). -/
def State.trainWords (s : State) (i : SiteNo) (words : List WordPair) : State :=
  let s₁ := s.scanWords words
  if s₁.cal.scan.words < 1024 then s₁
  else
    match foundPhase s₁.cal.scan.passed with
    | some p =>
      let s₂ := s₁.setLane i .shadowed
      { s₂ with cal := { s₂.cal with found := some p, scan := {}, words := 0, run := 0 } }
    | none => s₁.trainingFailure

/-- One word period of shadow agreement: words compared and the run of agreeing words; nothing is counted once it has succeeded or its 1024th word has passed (R119). -/
def shadowWord (n : Nat × Nat) (p : WordPair) : Nat × Nat :=
  if 64 ≤ n.2 ∨ 1024 ≤ n.1 then n else (n.1 + 1, if wordsAgree p then n.2 + 1 else 0)

/-- Shadow agreement compares words: it succeeds when the run reaches 64, with the handover at the next word boundary, and fails when its 1024th word passes without success (R119). -/
def State.shadowWords (s : State) (words : List WordPair) : State :=
  let n := words.foldl shadowWord (s.cal.words, s.cal.run)
  let s₁ : State := { s with cal := { s.cal with words := n.1, run := n.2 } }
  if 64 ≤ n.2 then { s₁ with cal := { s₁.cal with boundary := some .handover } }
  else if 1024 ≤ n.1 then s₁.trainingFailure
  else s₁

/-- The offline scan compares words; at its 1024th word it sets the working phase and enters SOAK with the soak length read, or it is an attempt failure (R120, R121). -/
def State.offlineWords (s : State) (i : SiteNo) (words : List WordPair) : State :=
  let s₁ := s.scanWords words
  if s₁.cal.scan.words < 1024 then s₁
  else
    match foundPhase s₁.cal.scan.passed with
    | some p =>
      let s₂ := s₁.setLane i .soak
      { s₂ with cal := { s₂.cal with
          working := some p, scan := {}, words := 0, run := 0, soakLength := s₂.tables.soak.toNat } }
    | none => s₁.attemptFailure i

/-- One word period of a soak of length n: the words compared so far, and whether one disagreed; nothing is compared after the disagreement or the last word (R121). -/
def soakWord (n : Nat) (x : Nat × Bool) (p : WordPair) : Nat × Bool :=
  if x.2 ∨ n ≤ x.1 then x else (x.1 + 1, !wordsAgree p)

/-- A soak compares words: the first disagreement is an attempt failure, the soak length of agreeing words a success with the hand-back at the next word boundary (R121, R122). -/
def State.soakWords (s : State) (i : SiteNo) (words : List WordPair) : State :=
  let x := words.foldl (soakWord s.cal.soakLength) (s.cal.words, false)
  let s₁ : State := { s with cal := { s.cal with words := x.1 } }
  if x.2 then s₁.attemptFailure i
  else if s₁.cal.soakLength ≤ x.1 then { s₁ with cal := { s₁.cal with boundary := some .handBack } }
  else s₁

/-- One word period of a lane whose carrier word fails R26, given to the stage in progress on that lane: it is compared as every other is, so a word whose parity does not hold disagrees, and what its comparison ends, ends at that word (R109, R119, R121, R127; DEDUCED, log entry 32). Other lanes have nothing compared. -/
def State.comparePeriod (s : State) (i : SiteNo) (p : WordPair) : State :=
  if s.cal.target = some i then
    match s.stage with
    | .trainingScan i => s.trainWords i [p]
    | .shadow _ => s.shadowWords [p]
    | .offlineScan i => s.offlineWords i [p]
    | .soak i => s.soakWords i [p]
    | .none => s
  else s

/-- The handover: the spare STANDING_IN as carrier, the lane OFFLINE_CAL, the offline scan begun (R120). -/
def State.handOver (s : State) (i : SiteNo) : State := s.beginOffline i

/-- A site's departure from ENABLED handed to the Lane Calibration Unit: a run on its lane ends as ABORT would end it, a run whose soak has succeeded is handed back first (log entry 12), a COMMITTED spare stays (R126, R128). The site's condition has changed before, so the walk of a start attempted here (R113, R114) finds it not ENABLED; where the departure completes a hand-back, R128 leaves that open: DESIGN CHOICE (log entry 34). -/
def State.departure (s : State) (i : SiteNo) : State :=
  if s.cal.target = some i then
    match s.cal.spare with
    | .training => s.endRun
    | .standingIn => if s.cal.boundary = some .handBack then s.completeRun i else s.endRun
    | _ => s
  else s

/-- START (R112). -/
def State.calStart (s : State) : State :=
  if s.cal.running then s else { s with cal := { s.cal with running := true, count := s.tables.reload } }

/-- STOP (R112). -/
def State.calStop (s : State) : State :=
  if s.cal.running then { s with cal := { s.cal with running := false, due := false } } else s

/-- ABORT (R124). -/
def State.calAbort (s : State) : State := if s.cal.spare = .idle then s else s.endRun

/-- RETRY on a DEGRADED lane of an ENABLED site (R125). -/
def State.calRetry (s : State) (i : SiteNo) : State :=
  ({ s with cal := { s.cal with attempts := 0 } } : State).beginOffline i

/-- CALIBRATION_TICK (R110, R113). -/
def execCalibrationTick (s : State) : Host.Outcome State Fault Refusal := .next s.begin.tick

/-- INTERVAL_COUNT_EXPIRY: the tick at an interval count of 1; no effect where the rotation is STOPPED or more ticks are left (R110). -/
def execIntervalCountExpiry (s : State) : Host.Outcome State Fault Refusal :=
  .next (if s.cal.running && s.cal.count.toNat ≤ 1 then s.begin.intervalExpiry else s.begin)

/-- CALIBRATION_RUN_START (R113, R114, R117). -/
def execCalibrationRunStart (s : State) : Host.Outcome State Fault Refusal := .next s.begin.attemptRun

/-- TRAINING_SCAN_END (R118). -/
def execTrainingScanEnd (words : List WordPair) (s : State) : Host.Outcome State Fault Refusal :=
  .next (match s.stage with
    | .trainingScan i => s.begin.trainWords i (passedPeriods words)
    | _ => s.begin)

/-- SHADOW_AGREEMENT_SUCCESS (R119). -/
def execShadowAgreementSuccess (words : List WordPair) (s : State) : Host.Outcome State Fault Refusal :=
  .next (match s.stage with
    | .shadow _ => s.begin.shadowWords (passedPeriods words)
    | _ => s.begin)

/-- SHADOW_AGREEMENT_TIMEOUT (R119). -/
def execShadowAgreementTimeout (words : List WordPair) (s : State) : Host.Outcome State Fault Refusal :=
  .next (match s.stage with
    | .shadow _ => s.begin.shadowWords (passedPeriods words)
    | _ => s.begin)

/-- HANDOVER: at the word boundary after the success of shadow agreement (R120). -/
def execHandover (s : State) : Host.Outcome State Fault Refusal :=
  .next (match s.stage with
    | .shadow i => if s.cal.boundary = some .handover then s.begin.handOver i else s.begin
    | _ => s.begin)

/-- OFFLINE_SCAN_END (R120, R121, R123). -/
def execOfflineScanEnd (words : List WordPair) (s : State) : Host.Outcome State Fault Refusal :=
  .next (match s.stage with
    | .offlineScan i => s.begin.offlineWords i (passedPeriods words)
    | _ => s.begin)

/-- SOAK_DISAGREEMENT (R121, R123). -/
def execSoakDisagreement (words : List WordPair) (s : State) : Host.Outcome State Fault Refusal :=
  .next (match s.stage with
    | .soak i => s.begin.soakWords i (passedPeriods words)
    | _ => s.begin)

/-- SOAK_SUCCESS (R121, R122). -/
def execSoakSuccess (words : List WordPair) (s : State) : Host.Outcome State Fault Refusal :=
  .next (match s.stage with
    | .soak i => s.begin.soakWords i (passedPeriods words)
    | _ => s.begin)

/-- HAND_BACK: at the word boundary after the success of the soak (R122). -/
def execHandBack (s : State) : Host.Outcome State Fault Refusal :=
  .next (match s.stage with
    | .soak i => if s.cal.boundary = some .handBack then s.begin.completeRun i else s.begin
    | _ => s.begin)

end Sys2Proof.Machine
end

