-- ==== Sys2Proof/Machine/Sites.lean ====
section
/-! DEFINITION. Site condition, hold protocol and head status (Chapter 2), with the meanings of the return words that concern them. -/

namespace Sys2Proof.Machine

/-- The queue-empty report to Site Control: a PENDING site whose queue is empty is granted (R34, R55). -/
def State.grantIfEmpty (s : State) (i : SiteNo) : State :=
  if (s.site i).hold = .pending ∧ (s.site i).queue = [] then s.grant i else s

/-- What a departure from ENABLED does at the site itself: the queue is discarded, a PENDING hold is granted, the port parks (R28, R54). -/
def State.vacate (s : State) (i : SiteNo) : State :=
  let s₁ := s.onSite i fun x => { x with queue := [] }
  if (s.site i).hold = .pending then s₁.grant i else s₁.parkPort i

/-- A site's condition set. -/
def State.setCondition (s : State) (i : SiteNo) (c : Condition) : State := s.onSite i fun x => { x with condition := c }

/-- SITE_DROPPED set by a STATUS word or by SET SITES. `drains` says that a discard of the same step removed a counted entry: where that removal ends the drain of a closing pass, the end of the drain and the notice are taken in an order the spec leaves open (R100, log entry 3). -/
def State.raiseDropped (s : State) (drains : Bool) : State :=
  if drains && s.drainDone then
    if s.draw then (s.drawn.raiseFlag .siteDropped).settleDrain
    else s.drawn.settleDrain.raiseFlag .siteDropped
  else s.raiseFlag .siteDropped

/-- An ENABLED site becomes DROPPED: the effects of R28 follow (R32, R39). -/
def State.leaveDropped (s : State) (i : SiteNo) (c : DropCause) : State :=
  ((s.setCondition i (.dropped c)).vacate i).departure i

/-- An ENABLED site is dropped by a head fault, and SITE_DROPPED is set (R39). -/
def State.dropSite (s : State) (i : SiteNo) (c : DropCause) : State :=
  (s.leaveDropped i c).raiseDropped (countedIn (s.site i).queue != 0)

/-- A drop request of the Repair Analyser: an ENABLED site with the setting on is dropped, and SITE_DROPPED is set (R32). The drop and its discard come before the reports of the compare that caused it, so the end of a drain is left to State.reportRemoval, which follows (R69, R96). -/
def State.dropRequest (s : State) (i : SiteNo) : State :=
  if (s.site i).condition = .enabled ∧ (s.site i).dropOn then (s.leaveDropped i .unrepairable).raiseFlag .siteDropped else s

/-- A STATUS word taken into the head status (R38). -/
def State.takeHeadStatus (s : State) (i : SiteNo) (bits : Byte) : State :=
  let s₁ := s.onSite i fun x => { x with current := bits }
  if bits = (s.site i).snapshot then s₁
  else (s₁.onSite i fun x => { x with changed := true }).raiseFlag .headChange

/-- A STATUS word with HEAD_FAULT acts on the site's condition (R39). -/
def State.headFaultDrop (s : State) (i : SiteNo) : State :=
  match (s.site i).condition with
  | .enabled => s.dropSite i .headFault
  | .dropped .unrepairable => (s.setCondition i (.dropped .headFault)).raiseFlag .siteDropped
  | .dropped .headFault => s
  | .disabled => s

/-- A STATUS word (R38, R39). -/
def State.takeStatus (s : State) (i : SiteNo) (bits : Byte) : State :=
  let s₁ := s.takeHeadStatus i bits
  if headFault bits then s₁.headFaultDrop i else s₁

/-- A HOLD_REQUEST word (R33). -/
def State.holdRequest (s : State) (i : SiteNo) : State :=
  if (s.site i).hold = .free then
    if (s.site i).queue = [] ∨ (s.site i).condition ≠ .enabled then s.grant i
    else s.onSite i fun x => { x with hold := .pending }
  else s

/-- A HOLD_RELEASE word (R35). -/
def State.holdRelease (s : State) (i : SiteNo) : State := s.onSite i fun x => { x with hold := .free }

/-- A discarded return word: the lane word error count rises (R26). -/
def State.laneError (s : State) (i : SiteNo) : State :=
  s.onSite i fun x => { x with laneErrors := satAdd x.laneErrors 1 }

/-- SET SITES at one site: the drop setting copied, then the condition changed by the enable bit, with COVERAGE_GAP for a disable while the pass is OPEN or CLOSING (R29, R30, R31). What a departure from ENABLED does besides is State.vacate and State.departure. -/
def Site.setSite (x : Site) (inPass enable drop : Bool) : Site :=
  let x := { x with dropOn := drop }
  match enable, x.condition with
  | true, .disabled => if headFault x.current then { x with condition := .dropped .headFault } else { x with condition := .enabled }
  | true, _ => x
  | false, .disabled => x
  | false, _ =>
    if inPass then { x with condition := .disabled, flags := { x.flags with coverageGap := true } }
    else { x with condition := .disabled }

/-- Whether the pass state is OPEN or CLOSING (R10, R31). -/
def State.inPass (s : State) : Bool := s.pass.state == .opened || s.pass.state == .closing

/-- SET SITES over the sixteen sites, made together as one step: every condition first, then the discards and grants of the sites that left ENABLED, then the departure handed to calibration, then SITE_DROPPED and the end of a drain (R28 to R31, R178). -/
def State.applySites (s : State) (enable drop : Half) : State :=
  let left (i : SiteNo) : Bool := (s.site i).condition == .enabled && !bitOf enable i.val
  let faulted (i : SiteNo) : Bool :=
    (s.site i).condition == .disabled && bitOf enable i.val && headFault (s.site i).current
  let s₁ := forSites (fun i t => t.onSite i fun x => x.setSite s.inPass (bitOf enable i.val) (bitOf drop i.val)) s
  let s₂ := forSites (fun i t => if left i then t.vacate i else t) s₁
  let s₃ := forSites (fun i t => if left i then t.departure i else t) s₂
  let drains := allSites.any fun i => left i && countedIn (s.site i).queue != 0
  if allSites.any faulted then s₃.raiseDropped drains
  else if drains then s₃.settleDrain
  else s₃

/-- STATUS_WORD (R38, R39). -/
def execStatusWord (site : SiteNo) (bits : Byte) (s : State) : Host.Outcome State Fault Refusal :=
  .next (s.begin.takeStatus site bits)

/-- HOLD_REQUEST_WORD (R33). -/
def execHoldRequestWord (site : SiteNo) (s : State) : Host.Outcome State Fault Refusal :=
  .next (s.begin.holdRequest site)

/-- HOLD_RELEASE_WORD (R35). -/
def execHoldReleaseWord (site : SiteNo) (s : State) : Host.Outcome State Fault Refusal :=
  .next (s.begin.holdRelease site)

/-- IDLE_WORD: no effect (R27). -/
def execIdleWord (_site : SiteNo) (s : State) : Host.Outcome State Fault Refusal := .next s.begin

/-- LANE_WORD_ERROR: the carrier's word is discarded and counted, and on the lane of a run in progress the same word is compared (R26, R127). -/
def execLaneWordError (site : SiteNo) (word : WordPair) (s : State) : Host.Outcome State Fault Refusal :=
  .next ((s.begin.laneError site).comparePeriod site word)

end Sys2Proof.Machine
end

