-- ==== Sys2Proof/Machine/Compare.lean ====
section
/-! DEFINITION. Expectation queues and compare (Chapter 3): ageing, expiry, matching, the compare with its ring write, FAIL record and counted fail, and the flush of a link loss. -/

namespace Sys2Proof.Machine

/-- Every entry of a queue one slot older, saturating at 255 (R44). -/
def ageQueue (q : List Entry) : List Entry := q.map fun e => { e with age := satAdd e.age 1 }

/-- One slot's ageing of every queue (R44). -/
def State.ageAll (s : State) : State := s.onSites fun x => { x with queue := ageQueue x.queue }

/-- The expiry limit of a site in slots: its return latency plus 8, read when the test is made (R48). -/
def State.expiryLimit (s : State) (i : SiteNo) : Nat := (s.trim i).latency + 8

/-- An entry is past a limit. -/
def Entry.past (e : Entry) (limit : Nat) : Bool := limit < e.age.toNat

/-- The entries of a site that expire at a test made now: the run at the head whose age exceeds the limit (R48). -/
def State.expiredAt (s : State) (i : SiteNo) : List Entry :=
  (s.site i).queue.takeWhile (·.past (s.expiryLimit i))

/-- The expiry test at one site: expired entries are popped as lost, and a queue left empty is reported (R46, R48, R55). -/
def State.expireSite (s : State) (i : SiteNo) : State :=
  match s.expiredAt i with
  | [] => s
  | gone => (s.onSite i fun x => { x.losing gone with queue := x.queue.drop gone.length }).grantIfEmpty i

/-- Whether some entry expires at a test made now. -/
def State.anyExpired (s : State) : Bool := allSites.any fun i => s.expiredAt i != []

/-- The expiry tests of one slot at all sites (R48). -/
def State.expireSites (s : State) : State := forSites (fun i t => t.expireSite i) s

/-- The expiry tests of one slot at all sites, with the report that may end the drain once the removals are done (R48, R55). -/
def State.expireAll (s : State) : State := if s.anyExpired then s.expireSites.settleDrain else s

/-- A stray: the stray count rises (R47). -/
def State.stray (s : State) (i : SiteNo) : State :=
  s.onSite i fun x => { x with counts := { x.counts with strays := satAdd x.counts.strays 1 } }

/-- The fail bits of a compare (R50). -/
def failBitsOf (e : Entry) (data : Half) : Half := (data ^^^ e.expected) &&& e.mask

/-- The history ring with one fail written: the last eight are kept, oldest first (R52). -/
def pushRing (ring : List RingEntry) (r : RingEntry) : List RingEntry :=
  if ring.length < 8 then ring ++ [r] else ring.drop (ring.length - 7) ++ [r]

/-- The ring entry of a fail (R52). -/
def ringEntryOf (e : Entry) (bits : Half) : RingEntry :=
  { ext := e.ext, region := e.region, row := e.row, col := e.col, failBits := bits, mark := e.mark }

/-- A FAIL record (R52, section 10.3). -/
def State.failFrame (s : State) (i : SiteNo) (e : Entry) (data : Half) : Frame :=
  returnFrame 0x83 s.source
    ([byteOf i.val, s.pass.number] ++ be16 e.tag ++ be32 e.ext ++
     [byteOf (e.region.val + bitNat e.mark 6 + bitNat e.counted 7)] ++ be16 e.row ++ be16 (colHalf e.col) ++
     be16 e.expected ++ be16 data ++ be16 (failBitsOf e data))

/-- A FAIL record offered to the report queue: enqueued when a place is free and no summary waits, else dropped with REPORT_DROPPED (R161). -/
def State.offerFail (s : State) (f : Frame) : State :=
  if s.reportRoom && !s.summariesWaiting then s.enqueueReport f
  else ({ s with ret := { s.ret with drops := satAdd s.ret.drops 1 } } : State).raiseFlag .reportDropped

/-- A counted fail handed to the Repair Analyser; the first UNREPAIRABLE verdict sends a drop request (R51, R68, R78). Site Control takes the request within this step, as 95_what_each_step_holds has it under READ_DATA_WORD; R78 also gives the outcome of a HEAD_FAULT word taken between the verdict and the request, an order that is no run of the model (DEDUCED, log entry 31). -/
def State.analyse (s : State) (i : SiteNo) (e : Entry) : State :=
  let s₁ := s.onSite i fun x => x.takeFail e.region (e.row, e.col)
  if (s.site i).verdict ≠ .unrepairable ∧ (s₁.site i).verdict = .unrepairable then s₁.dropRequest i else s₁

/-- The counters of a compare: of a counted entry only (R50). -/
def Counts.compared (c : Counts) (e : Entry) (fails : Bool) : Counts :=
  if e.counted then
    { c with
      compares := satAdd c.compares 1
      fails := if fails then satAdd c.fails 1 else c.fails }
  else c

/-- The compare of a popped entry with a returned word: counters, then for a fail the ring write, the FAIL record offer and, for a counted entry, the analysis, in that order (R50, R51, R52). The ring write count rises with every ring write, as R52 says, also for an entry queued before OPEN PASS, of which R56, R91 and R92 say that it adds to none of the new pass's counts: DESIGN CHOICE (log entry 33). -/
def State.compareEntry (s : State) (i : SiteNo) (e : Entry) (data : Half) : State :=
  let bits := failBitsOf e data
  let s₁ := s.onSite i fun x => { x with counts := x.counts.compared e (bits != 0) }
  if bits = 0 then s₁
  else
    let s₂ := s₁.onSite i fun x => { x with
      ring := pushRing x.ring (ringEntryOf e bits)
      counts := { x.counts with ringWrites := satAdd x.counts.ringWrites 1 } }
    let s₃ := if bitOf s₂.ret.rawLog i.val then s₂.offerFail (s₂.failFrame i e data) else s₂
    if e.counted then s₃.analyse i e else s₃

/-- The reports of R55 after a removal at a site. -/
def State.reportRemoval (s : State) (i : SiteNo) : State := (s.grantIfEmpty i).settleDrain

/-- What a READ_DATA word does at a site after its removals, with the reports that follow (R55). Where the entries popped as lost were the last counted ones of a drain, the spec leaves open whether the end of the drain is taken before the stray count or the FAIL record of an uncounted entry, or after it (R100): the order is drawn (log entry 3). `shows` says that what follows is such a stray or offer; the compare of a counted entry, with any drop its fail causes, always comes before the report (R69, R96). -/
def State.afterRemoval (s : State) (i : SiteNo) (lost : List Entry) (shows : Bool) (act : State → State) : State :=
  if countedIn lost != 0 && shows && s.drainDone && s.draw then (act s.drawn.settleDrain).reportRemoval i
  else if countedIn lost != 0 && shows && s.drainDone then (act s.drawn).reportRemoval i
  else (act s).reportRemoval i

/-- Whether the compare of an entry offers the FAIL record of an uncounted fail (R52). -/
def State.offersUncounted (s : State) (i : SiteNo) (e : Entry) (data : Half) : Bool :=
  !e.counted && failBitsOf e data != 0 && bitOf s.ret.rawLog i.val

/-- A tag's distance past another, modulo 65536 (R21, R45). -/
def tagDistance (t₀ t : Half) : Nat := (t - t₀).toNat

/-- A READ_DATA word matched against the site's queue (R45): the head matches, or older entries are popped as lost first, or the word is a stray. -/
def State.takeReadData (s : State) (i : SiteNo) (tag data : Half) : State :=
  match (s.site i).queue with
  | [] => s.stray i
  | h :: rest =>
    let d := tagDistance h.tag tag
    if d = 0 then
      ((s.onSite i fun x => { x with queue := rest }).compareEntry i h data).reportRemoval i
    else if d ≤ 32767 then
      let older := (h :: rest).takeWhile fun e => tagDistance h.tag e.tag < d
      let left := (h :: rest).drop older.length
      match left with
      | e :: rest' =>
        if e.tag = tag then
          (s.onSite i fun x => { x.losing older with queue := rest' }).afterRemoval i older (s.offersUncounted i e data)
            fun t => t.compareEntry i e data
        else (s.onSite i fun x => { x.losing older with queue := left }).afterRemoval i older true fun t => t.stray i
      | [] => (s.onSite i fun x => { x.losing older with queue := [] }).afterRemoval i older true fun t => t.stray i
    else s.stray i

/-- The flush of one site at link loss: every entry removed, counted ones accounted as lost, COVERAGE_GAP at an ENABLED site while the pass is OPEN (R53). -/
def Site.flushed (x : Site) (opened : Bool) : Site :=
  let y := { x.losing x.queue with queue := [] }
  if opened && x.condition == .enabled then { y with flags := { y.flags with coverageGap := true } } else y

/-- The flush of every queue at link loss, with the reports that follow it (R53, R55). -/
def State.flushAll (s : State) : State :=
  let held := allSites.any fun i => (s.site i).queue != []
  let s₁ := s.onSites fun x => x.flushed (s.pass.state == .opened)
  let s₂ := forSites (fun i t => if (s.site i).queue = [] then t else t.grantIfEmpty i) s₁
  if held then s₂.settleDrain else s₂

/-- ENTRY_EXPIRY: the expiry test at one site (R48). -/
def execEntryExpiry (site : SiteNo) (s : State) : Host.Outcome State Fault Refusal :=
  .next (if s.expiredAt site = [] then s.begin else (s.begin.expireSite site).settleDrain)

/-- READ_DATA_WORD (R45). -/
def execReadDataWord (site : SiteNo) (tag data : Half) (s : State) : Host.Outcome State Fault Refusal :=
  .next (s.begin.takeReadData site tag data)

end Sys2Proof.Machine
end

