-- ==== Sys2Proof/Machine/Passes.lean ====
section
/-! DEFINITION. Test passes (Chapter 5): the effects of OPEN PASS and CLOSE PASS on the blocks, and the meanings of DRAIN_COMPLETE and SUMMARY_ENQUEUE. -/

namespace Sys2Proof.Machine

/-- A site restored by OPEN PASS: a DROPPED site becomes ENABLED when its head reports no fault, else its cause becomes HEAD_FAULT (R37). -/
def Condition.restored (c : Condition) (faulting : Bool) : Condition :=
  match c with
  | .dropped _ => if faulting then .dropped .headFault else .enabled
  | c => c

/-- What OPEN PASS does at one site: records loaded, a drop restored, lane word errors, counts and ring cleared, flags cleared with LANE_DEGRADED_IN_PASS set again for a DEGRADED lane (R26, R37, R56, R58, R80, R91). -/
def Site.openPass (x : Site) (region : Vector Budget 8) : Site :=
  { x with
    condition := x.condition.restored (headFault x.current)
    laneErrors := 0
    counts := {}
    ring := []
    flags := { laneDegraded := x.lane == .degraded }
    records := mapVector Record.load region }

/-- An accepted OPEN PASS on the whole part, as one step (R15, R91). -/
def State.openPass (s : State) (number : Byte) : State :=
  let s₁ := s.onSites fun x => x.openPass s.tables.region
  { s₁ with
    expander := { s₁.expander with last := 0, upper := 0, start := true }
    ret := { s₁.ret with drops := 0 }
    pass := { state := .opened, number := number, summary := none } }

/-- An accepted CLOSE PASS up to its response: the pass is CLOSING, and the summary position stays absent (R94). -/
def State.closing (s : State) : State := { s with pass := { s.pass with state := .closing } }

/-- DRAIN_COMPLETE: the drain ends where it is in progress with no counted entry left (R96, R98). -/
def execDrainComplete (s : State) : Host.Outcome State Fault Refusal := .next s.begin.settleDrain

/-- SUMMARY_ENQUEUE: the summary of the site at the summary position takes a free place (R98, R101). -/
def execSummaryEnqueue (s : State) : Host.Outcome State Fault Refusal := .next s.begin.enqueueSummary

/-- PENDING_NOTICE_ENTERS: the oldest pending notice takes a free place (R168). -/
def execPendingNoticeEnters (s : State) : Host.Outcome State Fault Refusal := .next s.begin.admitNotice

end Sys2Proof.Machine
end

