-- ==== Sys2Proof/Machine/Expand.lean ====
section
/-! DEFINITION. Cycle expansion (Chapter 1, R14 to R21): cycle numbering, the physical address, topology, strobe placement and the outcome at each site port. -/

namespace Sys2Proof.Machine

/-- The operation of a CYCLE frame; a code other than WRITE or READ is expanded as NOP (R14). -/
inductive Operation where
  | nop
  | write
  | read
  deriving DecidableEq, Repr

/-- The operation a code names (R14, section 10.2). -/
def operationOf (code : Byte) : Operation :=
  if code = 1 then .write else if code = 2 then .read else .nop

/-- The timing set index: bits 0 to 3 of byte 3 (R194). -/
def setIndexOf (b : Byte) : Fin 16 := Fin.ofNat 16 b.toNat

/-- One physical bit (R2). -/
def ScrambleEntry.bit (e : ScrambleEntry) (address : Long) : Bool :=
  Bool.xor e.invert (match e.source with
    | .logical n => address.getLsbD n.val
    | .const0 => false
    | .const1 => true)

/-- The number whose bit k is the bit of scramble entry first + k, for n bits (R17). -/
def State.physicalBits (s : State) (address : Long) (first : Nat) : Nat → Nat
  | 0 => 0
  | n + 1 =>
    s.physicalBits address first n +
      bitNat ((s.tables.scramble.get (Fin.ofNat 31 (first + n))).bit address) n

/-- The physical row (R17). -/
def State.rowOf (s : State) (address : Long) : Half := BitVec.ofNat 16 (s.physicalBits address 0 16)

/-- The physical column (R17). -/
def State.colOf (s : State) (address : Long) : Col := BitVec.ofNat 12 (s.physicalBits address 16 12)

/-- The region (R17). -/
def State.regionOf (s : State) (address : Long) : RegionNo := Fin.ofNat 8 (s.physicalBits address 28 3)

/-- The physical bit a topology selector names (R3). -/
def Selector.bit (x : Selector) (row : Half) (col : Col) : Bool :=
  match x with
  | .row n => row.getLsbD n.val
  | .col n => col.getLsbD n.val

/-- The topology index: bit j is the bit selector j names (R18). -/
def State.topologyIndex (s : State) (row : Half) (col : Col) : Nat :=
  allRegions.foldl (fun n j => n + bitNat ((s.tables.selector.get j).bit row col) j.val) 0

/-- The physical data: D XOR T (R18). -/
def State.physicalData (s : State) (address : Long) (data : Half) : Half :=
  data ^^^ s.tables.topology.get (Fin.ofNat 256 (s.topologyIndex (s.rowOf address) (s.colOf address)))

/-- The timing set a CYCLE frame names (R1). -/
def State.timingSet (s : State) (c : Cycle) : TimingSet := s.tables.timing.get (setIndexOf c.setByte)

/-- The sum S of a strobe base and the trim the eye selector chooses (R19). -/
def strobeSum (t : TimingSet) (trim : Trim) : Int :=
  (t.base.toNat : Int) + (match t.eye with
    | .early => trim.early.toInt
    | .late => trim.late.toInt)

/-- The strobe code: S limited to 0 and 1023 (R19). -/
def strobeCode (t : TimingSet) (trim : Trim) : TimingCode :=
  let sum := strobeSum t trim
  if sum < 0 then 0 else if 1023 < sum then 1023 else BitVec.ofNat 10 sum.toNat

/-- Whether the code had to be limited (R19). -/
def strobeLimited (t : TimingSet) (trim : Trim) : Bool :=
  let sum := strobeSum t trim
  decide (sum < 0) || decide (1023 < sum)

/-- Whether an expanded frame is a cycle gap (R16). -/
def Expander.gapAt (e : Expander) (n : Half) : Bool := !e.start && n != e.last + 1

/-- The numbering after a frame of cycle number N, the gap counter with it (R15, R16). -/
def Expander.track (e : Expander) (n : Half) : Expander :=
  { last := n
    upper := if !e.start && n.toNat < e.last.toNat then satAdd e.upper 1 else e.upper
    start := false
    gaps := if e.gapAt n then satAdd e.gaps 1 else e.gaps }

/-- The cycle number of a frame tracked; on a gap while the pass is OPEN every ENABLED site has COVERAGE_GAP set (R15, R16). -/
def State.trackCycle (s : State) (n : Half) : State :=
  let s₁ : State := { s with expander := s.expander.track n }
  if s.expander.gapAt n && s.pass.state == .opened then
    s₁.onSites fun x => if x.condition = .enabled then { x with flags := { x.flags with coverageGap := true } } else x
  else s₁

/-- Whether a READ of cycle number N is accepted into a queue (R21). -/
def acceptsRead (q : List Entry) (n : Half) : Bool :=
  decide (q.length < 64) &&
    match q.head?, q.getLast? with
    | some h, some l =>
      decide (1 ≤ tagDistance h.tag n) && decide (tagDistance h.tag n ≤ 32767) &&
        decide (tagDistance h.tag l.tag < tagDistance h.tag n)
    | _, _ => true

/-- A cycle not issued at a site: skipped count, and COVERAGE_GAP while the pass is OPEN (R20, R21). -/
def Site.skip (x : Site) (gap : Bool) : Site :=
  { x with
    counts := { x.counts with skipped := satAdd x.counts.skipped 1 }
    flags := { x.flags with coverageGap := x.flags.coverageGap || gap } }

/-- The entry a READ pushes (R21). -/
def State.entryOf (s : State) (c : Cycle) : Entry :=
  { tag := c.number, age := 0, expected := s.physicalData c.address c.data, mask := c.mask
    region := s.regionOf c.address, row := s.rowOf c.address, col := s.colOf c.address
    mark := c.flags.getLsbD 0, counted := s.pass.state == .opened, ext := s.extended }

/-- The READ command of a frame at a site (R17, R19, R21). -/
def State.readCommand (s : State) (i : SiteNo) (c : Cycle) : SiteCommand :=
  .read (s.rowOf c.address) (s.colOf c.address) (s.regionOf c.address) (s.timingSet c).drive (strobeCode (s.timingSet c) (s.trim i)) c.number

/-- The WRITE command of a frame (R17, R20). -/
def State.writeCommand (s : State) (c : Cycle) : SiteCommand :=
  .write (s.rowOf c.address) (s.colOf c.address) (s.regionOf c.address) (s.physicalData c.address c.data) (s.timingSet c).drive

/-- A site with an accepted READ pushed: the entry, TESTED for a counted one, STROBE_CLAMPED for a limited code (R19, R21, R58). -/
def Site.push (x : Site) (e : Entry) (limited : Bool) : Site :=
  { x with
    queue := x.queue ++ [e]
    flags := { x.flags with
      tested := x.flags.tested || e.counted
      strobeClamped := x.flags.strobeClamped || limited } }

/-- The outcome of an expanded frame at one site port (R20, R21). -/
def State.issue (s : State) (c : Cycle) (i : SiteNo) : State :=
  let opened := s.pass.state == .opened
  match (s.site i).condition, (s.site i).hold with
  | .enabled, .free =>
    match operationOf c.op with
    | .nop => s.send i .nop
    | .write => s.send i (s.writeCommand c)
    | .read =>
      if acceptsRead (s.site i).queue c.number then
        (s.onSite i fun x => x.push (s.entryOf c) (strobeLimited (s.timingSet c) (s.trim i))).send i (s.readCommand i c)
      else (s.onSite i fun x => x.skip opened).send i .nop
  | .enabled, .pending =>
    match operationOf c.op with
    | .nop => s.send i .nop
    | _ => (if opened then s.onSite i fun x => x.skip true else s).send i .nop
  | _, _ => s

/-- The outcome of an expanded frame at those site ports that p names, in site order (R20). -/
def State.issueWhere (s : State) (c : Cycle) (p : SiteNo → Bool) : State :=
  forSites (fun i t => if p i then t.issue c i else t) s

/-- The expansion of a CYCLE frame: the cycle number is tracked, then each site port is given its outcome (R14). -/
def State.expand (s : State) (c : Cycle) : State := (s.trackCycle c.number).issueWhere c fun _ => true

/-- The NOP each driving or PENDING port is given in a slot whose frame is not an expanded CYCLE (R23). -/
def State.slotNops (s : State) : State :=
  forSites (fun i t => if t.parked i then t else t.send i .nop) s

/-- What a slot of a frame other than an expanded CYCLE holds besides its frame's action: the expiry tests, then a NOP to every port that is not parked (R23, R48). R23, R34 and R48 leave open whether a PENDING port whose queue this slot's own expiry empties still gets this slot's NOP, and whether a port that this slot's request parks gets it: DESIGN CHOICE, the expiry and its grant come before the NOP, so the first gets none, and the NOP before the request, so the second does (log entry 35). -/
def State.plainSlot (s : State) : State := s.expireAll.slotNops

/-- What is left of a site's queue once its expired entries are gone (R48). -/
def State.unexpiredAt (s : State) (i : SiteNo) : List Entry := (s.site i).queue.drop (s.expiredAt i).length

/-- Whether a site's outcome depends on the order of its expiry and the frame's expansion: a PENDING site whose queue the expiry empties, or a FREE site whose queue accepts the READ in one order only (R20, R21, R22). -/
def State.orderMattersAt (s : State) (c : Cycle) (i : SiteNo) : Bool :=
  s.expiredAt i != [] &&
    match (s.site i).condition, (s.site i).hold with
    | .enabled, .pending => (s.unexpiredAt i).isEmpty
    | .enabled, .free =>
      operationOf c.op == .read && acceptsRead (s.site i).queue c.number != acceptsRead (s.unexpiredAt i) c.number
    | _, _ => false

/-- Whether the slot's expiries and the frame's expansion have an order that shows: at some site, or in the summaries where an expiry may end the drain (R22, R99, R100). -/
def State.orderMatters (s : State) (c : Cycle) : Bool :=
  (s.draining && s.anyExpired) || allSites.any (s.orderMattersAt c)

/-- The slot of an expanded CYCLE frame in which entries expire, with an order at each site of its own: at the sites of `before` the frame is taken before the expiry, at the others after it, and at those of `between` still before the end of the drain that the expiries may bring about (R22, R96). -/
def State.cycleInOrder (s : State) (c : Cycle) (before between : SiteNo → Bool) : State :=
  let s₁ := ((s.trackCycle c.number).issueWhere c before).expireSites
  let s₂ := (s₁.issueWhere c fun i => !before i && between i).settleDrain
  s₂.issueWhere c fun i => !before i && !between i

/-- The slot of an expanded CYCLE frame: its expiry tests, which follow the advance of ages, and its expansion; where R22 gives two outcomes by the order in which a site takes the two, the order is open at each site (R22, R44, R48, log entry 3). -/
def State.cycleSlot (s : State) (c : Cycle) : State :=
  if s.orderMatters c then
    (s.drawnBy 32).cycleInOrder c (fun i => s.drawAt i.val) fun i => s.drawAt (16 + i.val)
  else s.expireAll.expand c

end Sys2Proof.Machine
end

