-- ==== Sys2Proof/Machine/Link.lean ====
section
/-! DEFINITION. The Link Receiver, the Forwarder and the sideband lines (Chapter 7), with the meanings of the link events and of the downstream frames other than CONTROL frames. -/

namespace Sys2Proof.Machine

/-- What the Link Receiver finds in a delivered frame: its kind with the fields the receiver and the Forwarder read, or a bad check (R131). -/
inductive Arrival where
  | idle
  | align (k : Byte) (count : Byte)
  | cycle
  | control (target : Nat) (code : Byte)
  | exercise
  | unknown
  | bad
  deriving DecidableEq, Repr

/-- A multiframe length that a valid ALIGN frame may carry (R131). -/
def validK (k : Byte) : Bool := 4 ≤ k.toNat && k.toNat ≤ 32

/-- Whether a target is this part's chain position; an unassigned part is addressed by no target (R145). -/
def State.addressed (s : State) (target : Nat) : Bool := s.chainPos.map Fin.val == some target

/-- The frame the Forwarder transmits for a received frame (R143, R144, R147). -/
def State.outgoing (s : State) (f : Frame) (a : Arrival) : Frame :=
  match a with
  | .bad => poisoned f
  | .control target code =>
    if s.link.state == .live then
      if s.addressed target then idleDown
      else if target == 15 && code == 0x01 then advanced f
      else f
    else f
  | _ => f

/-- The transmission of the outgoing frame within the event that takes the frame (R132, R143). -/
def State.forward (s : State) (f : Frame) (a : Arrival) : State :=
  { s with out := { s.out with down := some (s.outgoing f a) } }

/-- Entry to LIVE at a confirming ALIGN frame (R135). -/
def State.enterLive (s : State) (k count : Byte) : State :=
  let s₁ : State := { s with link := { s.link with
      state := .live, k := some k, position := some 0, lastCount := some count
      candidate := none, missRun := 0, errorRun := 0 } }
  if s.notice.lossOutstanding then
    ({ s₁ with notice := { s₁.notice with lossOutstanding := false } } : State).raiseFlag .linkRecovered
  else s₁

/-- One slot of the search for alignment (R134). -/
def State.seekSlot (s : State) (a : Arrival) : State :=
  let held := s.link.candidate.map fun x => (x.1, x.2 + 1)
  match a with
  | .align k count =>
    if validK k then
      if held = some (k, k.toNat) then s.enterLive k count
      else { s with link := { s.link with candidate := some (k, 0) } }
    else { s with link := { s.link with candidate := held } }
  | _ => { s with link := { s.link with candidate := held } }

/-- The multiframe position of the next slot (R136). -/
def LinkRx.nextPosition (l : LinkRx) : Nat := (l.position.getD 0 + 1) % (l.k.getD 0).toNat

/-- Whether a frame is an in-place ALIGN: at position 0, valid, with the recorded K (R136). -/
def LinkRx.inPlace (l : LinkRx) (a : Arrival) : Bool :=
  match a with
  | .align k _ => l.nextPosition == 0 && validK k && l.k == some k
  | _ => false

/-- Whether a frame is an alignment miss (R136). -/
def LinkRx.misses (l : LinkRx) (a : Arrival) : Bool :=
  if l.nextPosition = 0 then !l.inPlace a
  else match a with
    | .align _ _ => true
    | _ => false

/-- The count of the in-place ALIGN, else the count held (R136). -/
def LinkRx.countAfter (l : LinkRx) (a : Arrival) : Option Byte :=
  match a with
  | .align _ count => if l.inPlace a then some count else l.lastCount
  | _ => l.lastCount

/-- The Link Receiver's own counts for one frame taken in LIVE (R136, R137). -/
def LinkRx.count (l : LinkRx) (a : Arrival) : LinkRx :=
  { l with
    position := some l.nextPosition
    missRun := if l.inPlace a then 0 else if l.misses a then l.missRun + 1 else l.missRun
    lastCount := l.countAfter a
    errorRun := if a = .bad then l.errorRun + 1 else 0
    checkErrors := if a = .bad then satAdd l.checkErrors 1 else l.checkErrors }

/-- Whether a frame's counts bring a run to its limit (R136, R137). -/
def LinkRx.lossDue (l : LinkRx) : Bool := 2 ≤ l.missRun || 4 ≤ l.errorRun

/-- Link loss: SEEK with no candidate, the loss outstanding, every queue flushed, every port parked (R138). -/
def State.linkLoss (s : State) : State :=
  let s₁ : State := { s with
    link := { s.link with state := .seek, candidate := none, position := none, missRun := 0, errorRun := 0 }
    notice := { s.notice with lossOutstanding := true } }
  forSites (fun i t => t.parkPort i) s₁.flushAll

/-- One delivered frame taken as one event: in DOWN none is delineated; in SEEK and LIVE it is a slot, is forwarded and ages every entry; in LIVE it is counted, and it is acted on unless its slot completes a link loss (R132, R133, R141, R143). Whether such a slot still gives each driving or PENDING port the NOP of R23 before the ports park, R23, R24, R138 and R141 leave open: DESIGN CHOICE, it gives none (log entry 30). -/
def State.takeFrame (s : State) (f : Frame) (a : Arrival) (act : State → State) : State :=
  match s.link.state with
  | .down => s
  | .seek => ((s.forward f a).ageAll.expireAll).seekSlot a
  | .live =>
    let s₁ : State := { s.forward f a with link := s.link.count a }
    if s₁.link.lossDue then s₁.ageAll.linkLoss else act s₁.ageAll

/-- One step of the sequence generator: bit 15 is the output, and bit 0 becomes the exclusive-or of bits 15, 13, 12 and 10 (R142). -/
def lfsrStep (r : Half) : Half :=
  (r <<< 1) ||| (if Bool.xor (Bool.xor (r.getLsbD 15) (r.getLsbD 13)) (Bool.xor (r.getLsbD 12) (r.getLsbD 10)) then 1 else 0)

/-- Eight outputs of the generator, the first the most significant bit, and the register after them (R142). -/
def lfsrByte (r : Half) : Byte × Half :=
  (List.range 8).foldl (fun x _ => ((x.1 <<< 1) ||| (if x.2.getLsbD 15 then 1 else 0), lfsrStep x.2)) (0, r)

/-- The bytes generated from a register (R142). -/
def exerciseBytes : Nat → Half → List Byte
  | 0, _ => []
  | n + 1, r => (lfsrByte r).1 :: exerciseBytes n (lfsrByte r).2

/-- The sequence of an EXERCISE frame; a seed of 0 loads 1 (R142). -/
def exerciseSequence (seed : Half) : List Byte := exerciseBytes 27 (if seed = 0 then 1 else seed)

/-- The sequence bytes that differ from the regenerated ones (R142). -/
def exerciseErrorCount (seed : Half) (sequence : List Byte) : Nat :=
  ((exerciseSequence seed).zip (padTo 27 0 sequence)).countP fun x => x.1 != x.2

/-- The exercise error counter raised by the differing bytes of a frame (R142). -/
def State.exercise (s : State) (seed : Half) (sequence : List Byte) : State :=
  { s with link := { s.link with exerciseErrors := satAdd s.link.exerciseErrors (exerciseErrorCount seed sequence) } }

/-- A bad frame's action: none, but for the compare of a frame whose kind byte reads EXERCISE (R137, R142). -/
def State.badAct (s : State) (f : Frame) : State :=
  if f.kind = kindExercise then s.exercise (half f.body 0) (f.body.drop 2) else s

/-- SIGNAL_PRESENT (R133). -/
def State.signalPresent (s : State) : State :=
  let s₁ : State := { s with link := { s.link with signal := true } }
  if s.link.state = .down ∧ s.link.crst = false then
    { s₁ with link := { s₁.link with state := .seek, candidate := none } }
  else s₁

/-- SIGNAL_LOST: in LIVE a link loss and then DOWN, in SEEK DOWN, in DOWN no change (R139). -/
def State.signalLost (s : State) : State :=
  let s₁ : State := { s with link := { s.link with signal := false } }
  let down (t : State) : State := { t with link := { t.link with state := .down, candidate := none } }
  match s.link.state with
  | .live => down s₁.linkLoss
  | .seek => down s₁
  | .down => s₁

/-- CRST_N released: SEEK if signal is present (R133, R150). -/
def State.crstReleased (s : State) : State :=
  let s₁ : State := { s with link := { s.link with crst := false } }
  if s.link.crst ∧ s.link.state = .down ∧ s.link.signal then
    { s₁ with link := { s₁.link with state := .seek, candidate := none } }
  else s₁

/-- CRST_N_RELEASED (R133). -/
def execCrstReleased (s : State) : Host.Outcome State Fault Refusal := .next s.begin.crstReleased

/-- SIGNAL_PRESENT (R133). -/
def execSignalPresent (s : State) : Host.Outcome State Fault Refusal := .next s.begin.signalPresent

/-- SIGNAL_LOST (R139). -/
def execSignalLost (s : State) : Host.Outcome State Fault Refusal := .next s.begin.signalLost

/-- IDLE_FRAME: a slot only (R141). -/
def execIdleFrame (body : List Byte) (s : State) : Host.Outcome State Fault Refusal :=
  .next (s.begin.takeFrame (mkFrame kindIdle body) .idle State.plainSlot)

/-- ALIGN_FRAME: the search in SEEK, the in-place check in LIVE (R134, R136). -/
def execAlignFrame (k count : Byte) (rest : List Byte) (s : State) : Host.Outcome State Fault Refusal :=
  .next (s.begin.takeFrame (alignFrameOf k count rest) (.align k count) State.plainSlot)

/-- CYCLE_FRAME: expanded when taken in LIVE (R14). -/
def execCycleFrame (c : Cycle) (s : State) : Host.Outcome State Fault Refusal :=
  .next (s.begin.takeFrame (cycleFrameOf c) .cycle fun t => t.cycleSlot c)

/-- EXERCISE_FRAME: the sequence is regenerated and compared when taken in LIVE (R142). -/
def execExerciseFrame (seed : Half) (sequence : List Byte) (s : State) : Host.Outcome State Fault Refusal :=
  .next (s.begin.takeFrame (exerciseFrameOf seed sequence) .exercise fun t => t.plainSlot.exercise seed sequence)

/-- UNKNOWN_KIND_FRAME: the unknown-kind counter rises when taken in LIVE (R141). -/
def execUnknownKindFrame (kind : Byte) (body : List Byte) (s : State) : Host.Outcome State Fault Refusal :=
  .next (s.begin.takeFrame (mkFrame kind body) .unknown fun t =>
    let t₁ := t.plainSlot
    { t₁ with link := { t₁.link with unknownKinds := satAdd t₁.link.unknownKinds 1 } })

/-- BAD_FRAME (R137, R142, R144). -/
def execBadFrame (f : Frame) (s : State) : Host.Outcome State Fault Refusal :=
  .next (s.begin.takeFrame f .bad fun t => t.plainSlot.badAct f)

/-- SYQ_IN_CHANGE (R140). -/
def execSyqInChange (asserted : Bool) (s : State) : Host.Outcome State Fault Refusal :=
  .next { s.begin with link := { s.link with syqIn := asserted } }

end Sys2Proof.Machine
end

