-- ==== Sys2Proof/Machine/Reset.lean ====
section
/-! DEFINITION. The resets: power-on reset, the chain reset of every block, and the assertion of CRST_N (R42, R61, R87, R104, R129, R130, R150 to R152, R173, R186, R191). -/

namespace Sys2Proof.Machine

/-- A site after a chain reset: all at the reset values but the current head status copy, which is kept (R42, R61, R87, R129). The port is parked. -/
def Site.chainReset (x : Site) : Site := { current := x.current, command := x.command }

/-- The Link Receiver after a chain reset from the line: DOWN, nothing held of the alignment, counters 0; the input lines stand as they are (R150). -/
def LinkRx.lineReset (l : LinkRx) : LinkRx := { signal := l.signal, crst := l.crst, syqIn := l.syqIn }

/-- The Link Receiver after a chain reset by RESET PART: the link kept, counters 0 (R151). -/
def LinkRx.partReset (l : LinkRx) : LinkRx := { l with checkErrors := 0, unknownKinds := 0, exerciseErrors := 0 }

/-- The chain reset of every block but the Link Receiver and the Control Request Unit, whose values depend on its cause (R187's table). -/
def State.chainReset (s : State) : State :=
  let s₁ := forSites (fun i t => t.parkPort i) s
  { s₁ with
    expander := {}
    sites := mapVector Site.chainReset s₁.sites
    cal := { count := s₁.tables.reload }
    pass := {}
    ret := { hofIn := s₁.ret.hofIn, rawLog := s₁.ret.rawLog }
    notice := { mask := s₁.notice.mask } }

/-- A chain reset taken from CRST_N (R150, R186, R191). -/
def State.lineReset (s : State) : State :=
  { s.chainReset with link := s.link.lineReset, chainPos := none, cause := .chainLine }

/-- A chain reset taken by RESET PART (R151, R186, R191). -/
def State.partReset (s : State) : State :=
  { s.chainReset with link := s.link.partReset, cause := .chainRequest }

/-- Power-on reset: every block at its power-on values; the factory phase store and the revision are not changed, and the input lines stand as they are driven (R130, R152, R185, R186). -/
def State.powerOn (s : State) : State :=
  { State.reset with
    link := { crst := s.link.crst, syqIn := s.link.syqIn }
    revision := s.revision
    tables := Tables.powerOn s.tables.factory
    ret := { hofIn := s.ret.hofIn }
    draws := s.draws
    pending := s.pending }

/-- POWER_ON_RESET (R152). -/
def execPowerOnReset (s : State) : Host.Outcome State Fault Refusal := .next s.begin.powerOn

/-- CRST_N_ASSERTED: the chain reset is taken when the line becomes asserted; a line that is held takes no further reset (R150, R186). -/
def execCrstAsserted (s : State) : Host.Outcome State Fault Refusal :=
  .next (if s.link.crst then s.begin
    else ({ s.begin with link := { s.link with crst := true } } : State).lineReset)

end Sys2Proof.Machine
end

