-- ==== Sys2Proof/Machine/Requests.lean ====
section
/-! DEFINITION. Control requests (Chapter 9): which frames are taken, the room check, responses, the requests one by one with their response data (section 10.6), and the meanings of the CONTROL frame rows. -/

namespace Sys2Proof.Machine

/-- Request codes (section 10.5). -/
def codeEnumerate : Byte := 0x01
def codeResync : Byte := 0x02
def codeResetPart : Byte := 0x03
def codeReadStatus : Byte := 0x04
def codeSetReporting : Byte := 0x05
def codeClearFlags : Byte := 0x06
def codeWriteTable : Byte := 0x10
def codeReadTable : Byte := 0x11
def codeSetSites : Byte := 0x20
def codeReadHeadStatus : Byte := 0x21
def codeReadSiteCounts : Byte := 0x22
def codeReadSiteAnalysis : Byte := 0x23
def codeOpenPass : Byte := 0x30
def codeClosePass : Byte := 0x31
def codeCalControl : Byte := 0x40

/-- A RESPONSE frame: tag and request code copied, status with the CLAMPED indication in bit 7, data filled with zeros (R179, section 10.3). -/
def State.responseFrame (s : State) (c : Ctl) (code : Byte) (status : Status) (clamped : Bool) (data : List Byte) : Frame :=
  returnFrame 0x81 s.source
    ([c.tag, code, if clamped then status.code ||| 0x80 else status.code] ++ padTo 25 0 data)

/-- A response built from the state as it stands and queued (R178, R179). -/
def State.answer (s : State) (c : Ctl) (code : Byte) (status : Status) (data : List Byte) : State :=
  s.enqueueResponse (s.responseFrame c code status false data)

/-- The part identity in response data: device code 0x0416 and the revision (R185). -/
def State.identity (s : State) : List Byte := [0x04, 0x16, s.revision]

/-- ENUMERATE (R146, R180). -/
def State.reqEnumerate (s : State) (c : Ctl) (p : Byte) : State :=
  if ctlTarget c ≠ 15 then s.answer c codeEnumerate .badCode []
  else if p.toNat < 8 then
    let s₁ : State := { s with chainPos := some (Fin.ofNat 8 p.toNat) }
    s₁.answer c codeEnumerate .accepted (s₁.identity ++ [s₁.positionByte])
  else
    let s₁ : State := { s with chainPos := none }
    s₁.answer c codeEnumerate .chainFull (s₁.identity ++ [s₁.positionByte])

/-- RESYNC: the response first, from the link as it stands, then link loss (R149, R180). -/
def State.reqResync (s : State) (c : Ctl) : State :=
  if ctlTarget c = 15 then s.answer c codeResync .badCode []
  else
    (s.answer c codeResync .accepted
      [byteOf s.link.state.code, s.link.k.getD 0, s.link.lastCount.getD 0]).linkLoss

/-- RESET PART: the chain reset first, then the response in the emptied queue (R187). -/
def State.reqResetPart (s : State) (c : Ctl) : State :=
  let s₁ := s.partReset
  s₁.answer c codeResetPart .accepted (s₁.identity ++ [s₁.cause.code, s₁.positionByte])

/-- The data of READ STATUS (R183, section 10.6). -/
def State.statusData (s : State) : List Byte :=
  s.identity ++
  [byteOf (s.link.state.code + bitNat s.cal.running 2), s.link.k.getD 0, s.link.lastCount.getD 0, s.positionByte,
   s.cause.code, s.pass.state.code, s.pass.number, s.notice.flags, s.maskedFlags] ++
  be16 s.expander.gaps ++ be16 s.link.checkErrors ++ be16 s.link.unknownKinds ++ be32 s.link.exerciseErrors

/-- READ STATUS: the report, then REQUESTS_LOST cleared (R183, R184). -/
def State.reqReadStatus (s : State) (c : Ctl) : State :=
  (s.answer c codeReadStatus .accepted s.statusData).clearNoticeFlags NoticeFlag.requestsLost.set

/-- The number of summaries waiting: the sites from the summary position to 15 (R98, R172). -/
def State.waitingCount (s : State) : Nat :=
  match s.pass.summary with
  | some i => 16 - i.val
  | none => 0

/-- The return-link status (R172, section 10.6). -/
def State.reportingData (s : State) : List Byte :=
  be16 s.ret.rawLog ++
  [s.notice.mask, s.notice.flags, s.maskedFlags, byteOf s.ret.fifo.length, byteOf s.ret.responses.length,
   byteOf s.ret.reports.length, byteOf s.notice.waiting.length, byteOf s.waitingCount,
   byteOf (bitNat s.ret.hofOut 0 + bitNat s.ret.hofIn 1)] ++
  be16 s.ret.drops ++ be16 s.ret.checkErrors

/-- SET REPORTING (R172). -/
def State.reqSetReporting (s : State) (c : Ctl) (enables : Half) (mask : Byte) : State :=
  let s₁ : State := { s with ret := { s.ret with rawLog := enables }, notice := { s.notice with mask := mask } }
  s₁.answer c codeSetReporting .accepted s₁.reportingData

/-- CLEAR FLAGS (R170). -/
def State.reqClearFlags (s : State) (c : Ctl) (flags : Byte) : State :=
  let s₁ := s.clearNoticeFlags flags
  s₁.answer c codeClearFlags .accepted [s₁.notice.flags, s₁.maskedFlags]

/-- WRITE TABLE: status, CLAMPED indication and the count applied (R8, R9). -/
def State.reqWriteTable (s : State) (c : Ctl) (table start count : Byte) (entries : List Byte) : State :=
  let r := s.writeTable s.inPass table start count entries
  r.state.enqueueResponse (r.state.responseFrame c codeWriteTable r.status r.clamped [byteOf r.applied])

/-- READ TABLE (R12). -/
def State.reqReadTable (s : State) (c : Ctl) (table start : Byte) : State :=
  let r := s.readTable table start
  s.answer c codeReadTable r.1 r.2

/-- The condition codes of the sixteen sites, four to a byte (R29, section 10.6). -/
def State.conditionData (s : State) : List Byte :=
  [0, 4, 8, 12].map fun (b : Nat) => byteOf ([0, 1, 2, 3].foldl
    (fun n (j : Nat) => n + (s.site (Fin.ofNat 16 (b + j))).condition.code * 4 ^ j) 0)

/-- SET SITES: the conditions it reports are those after the request (R29). -/
def State.reqSetSites (s : State) (c : Ctl) (enable drop : Half) : State :=
  let s₁ := s.applySites enable drop
  s₁.answer c codeSetSites .accepted s₁.conditionData

/-- The sites a READ HEAD STATUS reports: at most 7 from the first site (R40). -/
def reportedSites (first count : Nat) : List SiteNo := (List.range (min count 7)).map fun j => Fin.ofNat 16 (first + j)

/-- What a site shows software: its current copy, its snapshot and its changed mark (R40). -/
def Site.headData (x : Site) : List Byte := [x.current, x.snapshot, byteOf (bitNat x.changed 0)]

/-- A site's change detection re-armed (R40). -/
def Site.rearm (x : Site) : Site := { x with snapshot := x.current, changed := false }

/-- READ HEAD STATUS: the report, then change detection re-armed for the sites it reported (R40). -/
def State.reqReadHeadStatus (s : State) (c : Ctl) (first count : Byte) : State :=
  if 15 < first.toNat ∨ 16 < first.toNat + count.toNat then s.answer c codeReadHeadStatus .badIndex []
  else
    let sites := reportedSites first.toNat count.toNat
    let s₁ := s.answer c codeReadHeadStatus .accepted
      (first :: byteOf sites.length :: (sites.map fun i => (s.site i).headData).flatten)
    sites.foldl (fun t i => t.onSite i Site.rearm) s₁

/-- Chunk 0 of READ SITE COUNTS (R59, section 10.6). -/
def Site.countsData (x : Site) (site : Byte) : List Byte :=
  [site, 0, byteOf (x.condition.code + x.hold.code * 4)] ++ be32 x.counts.compares ++ be16 x.counts.fails ++
  be16 x.counts.lost ++ be16 x.counts.skipped ++ be16 x.counts.strays ++ be16 x.laneErrors ++
  [x.flags.byte, byteOf x.queue.length, byteOf (countedIn x.queue), byteOf x.ring.length] ++ be16 x.counts.ringWrites

/-- A ring entry's eleven bytes (section 10.6). -/
def RingEntry.data (r : RingEntry) : List Byte :=
  be32 r.ext ++ [byteOf (r.region.val + bitNat r.mark 6)] ++ be16 r.row ++ be16 (colHalf r.col) ++ be16 r.failBits

/-- Chunks 1 to 4 of READ SITE COUNTS: ring entries 2c - 2 and 2c - 1 from the oldest (R60, section 10.6). -/
def Site.ringData (x : Site) (chunk : Nat) : List Byte :=
  let here := (x.ring.drop (2 * chunk - 2)).take 2
  byteOf (x.ring.length + here.length * 16) :: be16 x.counts.ringWrites ++ (here.map RingEntry.data).flatten

/-- READ SITE COUNTS (R59, R60). -/
def State.reqReadSiteCounts (s : State) (c : Ctl) (site chunk : Byte) : State :=
  if 15 < site.toNat ∨ 4 < chunk.toNat then s.answer c codeReadSiteCounts .badIndex []
  else
    let x := s.site (Fin.ofNat 16 site.toNat)
    s.answer c codeReadSiteCounts .accepted (if chunk = 0 then x.countsData site else x.ringData chunk.toNat)

/-- Chunk 0 of READ SITE ANALYSIS (R84, section 10.6). -/
def Record.headData (r : Record) (verdict : RegionState) (site region : Byte) : List Byte :=
  let cols := padTo 4 0 r.mustCols
  [byteOf (site.toNat + region.toNat * 16), 0, byteOf (r.state.code + verdict.code * 4),
   byteOf (r.loadedRows + r.loadedCols * 16), byteOf (r.rr + r.rc * 16),
   byteOf (r.mustRows.length + r.mustCols.length * 8 + bitNat r.cause.isSome 6), byteOf r.sparse.length] ++
  ((padTo 4 0 r.mustRows).map be16).flatten ++
  packCols (cols.getD 0 0) (cols.getD 1 0) ++ packCols (cols.getD 2 0) (cols.getD 3 0) ++
  (match r.cause with
   | some p => be16 p.1 ++ be16 (colHalf p.2)
   | none => [0, 0, 0, 0])

/-- Two sparse pairs: their rows, then their columns packed (section 10.6). -/
def pairsData (a b : Half × Col) : List Byte := be16 a.1 ++ be16 b.1 ++ packCols a.2 b.2

/-- Chunks 1 to 6 of READ SITE ANALYSIS: list positions 6(k - 1) to 6k - 1 (R85, section 10.6). -/
def Record.sparseData (r : Record) (site region chunk : Byte) : List Byte :=
  let here := (r.sparse.drop (6 * (chunk.toNat - 1))).take 6
  let p (i : Nat) : Half × Col := here.getD i (0, 0)
  [byteOf (site.toNat + region.toNat * 16), chunk, byteOf r.sparse.length, byteOf here.length] ++
  pairsData (p 0) (p 1) ++ pairsData (p 2) (p 3) ++ pairsData (p 4) (p 5)

/-- READ SITE ANALYSIS (R83 to R85). -/
def State.reqReadSiteAnalysis (s : State) (c : Ctl) (site region chunk : Byte) : State :=
  if 15 < site.toNat ∨ 7 < region.toNat ∨ 6 < chunk.toNat then s.answer c codeReadSiteAnalysis .badIndex []
  else
    let x := s.site (Fin.ofNat 16 site.toNat)
    let r := x.records.get (Fin.ofNat 8 region.toNat)
    s.answer c codeReadSiteAnalysis .accepted
      (if chunk = 0 then r.headData x.verdict site region else r.sparseData site region chunk)

/-- The pass state and the pass number, as every response to OPEN PASS and CLOSE PASS starts (R90, R94). -/
def State.passData (s : State) : List Byte := [s.pass.state.code, s.pass.number]

/-- OPEN PASS (R90, R91). -/
def State.reqOpenPass (s : State) (c : Ctl) (number : Byte) : State :=
  match s.pass.state with
  | .idle =>
    let s₁ := s.openPass number
    s₁.answer c codeOpenPass .accepted s₁.passData
  | .closed =>
    let s₁ := s.openPass number
    s₁.answer c codeOpenPass .accepted s₁.passData
  | .opened => s.answer c codeOpenPass .wrongState s.passData
  | .closing => s.answer c codeOpenPass .busy s.passData

/-- CLOSE PASS: the response at acceptance, then the drain where nothing is outstanding (R94, R95). -/
def State.reqClosePass (s : State) (c : Ctl) : State :=
  match s.pass.state with
  | .opened =>
    let s₁ := s.closing
    (s₁.answer c codeClosePass .accepted (s₁.passData ++ be16 (BitVec.ofNat 16 s₁.countedTotal))).settleDrain
  | .closing => s.answer c codeClosePass .busy s.passData
  | .idle => s.answer c codeClosePass .wrongState s.passData
  | .closed => s.answer c codeClosePass .wrongState s.passData

/-- The lane states, two to a byte (section 10.6). -/
def State.laneData (s : State) : List Byte :=
  (List.range 8).map fun j =>
    byteOf ((s.site (Fin.ofNat 16 (2 * j))).lane.code + (s.site (Fin.ofNat 16 (2 * j + 1))).lane.code * 16)

/-- The calibration status (R111, section 10.6). -/
def State.calData (s : State) : List Byte :=
  byteOf (bitNat s.cal.running 0 + bitNat s.cal.due 1) :: be16 s.cal.count ++
  [byteOf s.cal.index.val, s.cal.spare.code, byteOf s.sparePhase.val,
   (match s.cal.target with
    | some i => byteOf i.val
    | none => 0xFF),
   (match s.workingPhase with
    | some p => byteOf p.val
    | none => 0xFF),
   byteOf s.cal.attempts] ++ s.laneData ++ be16 s.cal.runs ++ be16 s.cal.trainingFailures

/-- A CAL CONTROL response: the calibration status as it stands after the request, whatever the status (R111). -/
def State.answerCal (s : State) (c : Ctl) (status : Status) : State := s.answer c codeCalControl status s.calData

/-- CAL CONTROL START (R112). -/
def State.reqCalStart (s : State) (c : Ctl) : State := s.calStart.answerCal c .accepted

/-- CAL CONTROL STOP (R112). -/
def State.reqCalStop (s : State) (c : Ctl) : State := s.calStop.answerCal c .accepted

/-- CAL CONTROL ABORT (R124). -/
def State.reqCalAbort (s : State) (c : Ctl) : State := s.calAbort.answerCal c .accepted

/-- CAL CONTROL RETRY (R111, R125). -/
def State.reqCalRetry (s : State) (c : Ctl) (site : Byte) : State :=
  if 15 < site.toNat then s.answerCal c .badIndex
  else
    let i : SiteNo := Fin.ofNat 16 site.toNat
    if (s.site i).lane = .degraded ∧ (s.site i).condition = .enabled then (s.calRetry i).answerCal c .accepted
    else s.answerCal c .wrongState

/-- CAL CONTROL STATUS (R111). -/
def State.reqCalStatus (s : State) (c : Ctl) : State := s.answerCal c .accepted

/-- A request whose code is none of the fifteen (R180). -/
def State.reqUnknown (s : State) (c : Ctl) (code : Byte) : State := s.answer c code .badCode []

/-- A CAL CONTROL by its action code; an action outside the five is answered BAD_CODE (R111). -/
def State.reqCalControl (s : State) (c : Ctl) (action site : Byte) : State :=
  match action.toNat with
  | 1 => s.reqCalStart c
  | 2 => s.reqCalStop c
  | 3 => s.reqCalAbort c
  | 4 => s.reqCalRetry c site
  | 5 => s.reqCalStatus c
  | _ => s.answerCal c .badCode

/-- A request by its code, with its parameters read from the 26 parameter bytes (R178, R180, section 10.6). -/
def State.requestOf (s : State) (c : Ctl) (code : Byte) (p : List Byte) : State :=
  match code.toNat with
  | 0x01 => s.reqEnumerate c (p.getD 0 0)
  | 0x02 => s.reqResync c
  | 0x03 => s.reqResetPart c
  | 0x04 => s.reqReadStatus c
  | 0x05 => s.reqSetReporting c (half p 0) (p.getD 2 0)
  | 0x06 => s.reqClearFlags c (p.getD 0 0)
  | 0x10 => s.reqWriteTable c (p.getD 0 0) (p.getD 1 0) (p.getD 2 0) (p.drop 3)
  | 0x11 => s.reqReadTable c (p.getD 0 0) (p.getD 1 0)
  | 0x20 => s.reqSetSites c (half p 0) (half p 2)
  | 0x21 => s.reqReadHeadStatus c (p.getD 0 0) (p.getD 1 0)
  | 0x22 => s.reqReadSiteCounts c (p.getD 0 0) (p.getD 1 0)
  | 0x23 => s.reqReadSiteAnalysis c (p.getD 0 0) (p.getD 1 0) (p.getD 2 0)
  | 0x30 => s.reqOpenPass c (p.getD 0 0)
  | 0x31 => s.reqClosePass c
  | 0x40 => s.reqCalControl c (p.getD 0 0) (p.getD 1 0)
  | _ => s.reqUnknown c code

/-- Whether the Control Request Unit takes a good CONTROL frame: it is a broadcast or addressed to this part (R145, R148, R175). -/
def State.takes (s : State) (c : Ctl) : Bool := ctlTarget c == 15 || s.addressed (ctlTarget c)

/-- A taken request: executed where the response queue has room, else lost with REQUESTS_LOST (R176). -/
def State.request (s : State) (c : Ctl) (run : State → State) : State :=
  if s.takes c then
    if s.responseRoom then run s else s.raiseFlag .requestsLost
  else s

/-- A good CONTROL frame: one slot, forwarded, and in LIVE handed to the Control Request Unit unless its slot completes a link loss (R132, R143, R175). -/
def State.takeControl (s : State) (c : Ctl) (code : Byte) (params : List Byte) (run : State → State) : State :=
  s.takeFrame (controlFrame c code params) (.control (ctlTarget c) code) fun t => t.plainSlot.request c run

/-- ENUMERATE (R146). -/
def execEnumerate (c : Ctl) (p : Byte) (rest : List Byte) (s : State) : Host.Outcome State Fault Refusal :=
  .next (s.begin.takeControl c codeEnumerate (p :: rest) fun t => t.reqEnumerate c p)

/-- RESYNC (R149). -/
def execResync (c : Ctl) (params : List Byte) (s : State) : Host.Outcome State Fault Refusal :=
  .next (s.begin.takeControl c codeResync params fun t => t.reqResync c)

/-- RESET_PART (R187). -/
def execResetPart (c : Ctl) (params : List Byte) (s : State) : Host.Outcome State Fault Refusal :=
  .next (s.begin.takeControl c codeResetPart params fun t => t.reqResetPart c)

/-- READ_STATUS (R183, R184). -/
def execReadStatus (c : Ctl) (params : List Byte) (s : State) : Host.Outcome State Fault Refusal :=
  .next (s.begin.takeControl c codeReadStatus params fun t => t.reqReadStatus c)

/-- SET_REPORTING (R172). -/
def execSetReporting (c : Ctl) (enables : Half) (mask : Byte) (rest : List Byte) (s : State) : Host.Outcome State Fault Refusal :=
  .next (s.begin.takeControl c codeSetReporting (be16 enables ++ mask :: rest) fun t => t.reqSetReporting c enables mask)

/-- CLEAR_FLAGS (R170). -/
def execClearFlags (c : Ctl) (flags : Byte) (rest : List Byte) (s : State) : Host.Outcome State Fault Refusal :=
  .next (s.begin.takeControl c codeClearFlags (flags :: rest) fun t => t.reqClearFlags c flags)

/-- WRITE_TABLE (R8, R9). -/
def execWriteTable (c : Ctl) (table start count : Byte) (entries : List Byte) (s : State) : Host.Outcome State Fault Refusal :=
  .next (s.begin.takeControl c codeWriteTable (table :: start :: count :: entries) fun t =>
    t.reqWriteTable c table start count entries)

/-- READ_TABLE (R12). -/
def execReadTable (c : Ctl) (table start : Byte) (rest : List Byte) (s : State) : Host.Outcome State Fault Refusal :=
  .next (s.begin.takeControl c codeReadTable (table :: start :: rest) fun t => t.reqReadTable c table start)

/-- SET_SITES (R29). -/
def execSetSites (c : Ctl) (enable drop : Half) (rest : List Byte) (s : State) : Host.Outcome State Fault Refusal :=
  .next (s.begin.takeControl c codeSetSites (be16 enable ++ be16 drop ++ rest) fun t => t.reqSetSites c enable drop)

/-- READ_HEAD_STATUS (R40). -/
def execReadHeadStatus (c : Ctl) (first count : Byte) (rest : List Byte) (s : State) : Host.Outcome State Fault Refusal :=
  .next (s.begin.takeControl c codeReadHeadStatus (first :: count :: rest) fun t => t.reqReadHeadStatus c first count)

/-- READ_SITE_COUNTS (R59, R60). -/
def execReadSiteCounts (c : Ctl) (site chunk : Byte) (rest : List Byte) (s : State) : Host.Outcome State Fault Refusal :=
  .next (s.begin.takeControl c codeReadSiteCounts (site :: chunk :: rest) fun t => t.reqReadSiteCounts c site chunk)

/-- READ_SITE_ANALYSIS (R83). -/
def execReadSiteAnalysis (c : Ctl) (site region chunk : Byte) (rest : List Byte) (s : State) : Host.Outcome State Fault Refusal :=
  .next (s.begin.takeControl c codeReadSiteAnalysis (site :: region :: chunk :: rest) fun t =>
    t.reqReadSiteAnalysis c site region chunk)

/-- OPEN_PASS (R90). -/
def execOpenPass (c : Ctl) (number : Byte) (rest : List Byte) (s : State) : Host.Outcome State Fault Refusal :=
  .next (s.begin.takeControl c codeOpenPass (number :: rest) fun t => t.reqOpenPass c number)

/-- CLOSE_PASS (R94). -/
def execClosePass (c : Ctl) (params : List Byte) (s : State) : Host.Outcome State Fault Refusal :=
  .next (s.begin.takeControl c codeClosePass params fun t => t.reqClosePass c)

/-- CAL_CONTROL_START (R112). -/
def execCalControlStart (c : Ctl) (site : Byte) (rest : List Byte) (s : State) : Host.Outcome State Fault Refusal :=
  .next (s.begin.takeControl c codeCalControl (1 :: site :: rest) fun t => t.reqCalStart c)

/-- CAL_CONTROL_STOP (R112). -/
def execCalControlStop (c : Ctl) (site : Byte) (rest : List Byte) (s : State) : Host.Outcome State Fault Refusal :=
  .next (s.begin.takeControl c codeCalControl (2 :: site :: rest) fun t => t.reqCalStop c)

/-- CAL_CONTROL_ABORT (R124). -/
def execCalControlAbort (c : Ctl) (site : Byte) (rest : List Byte) (s : State) : Host.Outcome State Fault Refusal :=
  .next (s.begin.takeControl c codeCalControl (3 :: site :: rest) fun t => t.reqCalAbort c)

/-- CAL_CONTROL_RETRY (R125). -/
def execCalControlRetry (c : Ctl) (site : Byte) (rest : List Byte) (s : State) : Host.Outcome State Fault Refusal :=
  .next (s.begin.takeControl c codeCalControl (4 :: site :: rest) fun t => t.reqCalRetry c site)

/-- CAL_CONTROL_STATUS (R111). -/
def execCalControlStatus (c : Ctl) (site : Byte) (rest : List Byte) (s : State) : Host.Outcome State Fault Refusal :=
  .next (s.begin.takeControl c codeCalControl (5 :: site :: rest) fun t => t.reqCalStatus c)

/-- UNKNOWN_REQUEST: the request a frame's code and parameters name, which for a well-formed command is none of the fifteen, or a CAL CONTROL whose action is none of the five (R111, R180). -/
def execUnknownRequest (c : Ctl) (code : Byte) (params : List Byte) (s : State) : Host.Outcome State Fault Refusal :=
  .next (s.begin.takeControl c code params fun t => t.requestOf c code params)

/-- CONTROL_FRAME_NOT_TAKEN: the slot of a CONTROL frame; where the state does take the frame, the request it carries is executed (R145, R175). -/
def execControlFrameNotTaken (c : Ctl) (code : Byte) (params : List Byte) (s : State) : Host.Outcome State Fault Refusal :=
  .next (s.begin.takeControl c code params fun t => t.requestOf c code params)

end Sys2Proof.Machine
end

