-- ==== Sys2Proof/Machine/ReturnLink.lean ====
section
/-! DEFINITION. The return link (Chapter 8): arrivals from the part below, hold-off, the transmit arbiter and the meanings of the return link events. -/

namespace Sys2Proof.Machine

/-- HOF_OUT after an arrival: asserted at 5 frames or more (R157). -/
def hofAfterArrival (held : Bool) (occupancy : Nat) : Bool := if 5 ≤ occupancy then true else held

/-- HOF_OUT after a departure: released at 2 frames or fewer (R157). -/
def hofAfterDeparture (held : Bool) (occupancy : Nat) : Bool := if occupancy ≤ 2 then false else held

/-- A frame offered to the pass-through FIFO: it joins as the newest, or is dropped with RETURN_OVERRUN when the FIFO holds 8 (R156, R157). -/
def State.offerPassThrough (s : State) (f : Frame) : State :=
  if s.ret.fifo.length < 8 then
    let fifo := s.ret.fifo ++ [f]
    { s with ret := { s.ret with fifo := fifo, hofOut := hofAfterArrival s.ret.hofOut fifo.length } }
  else s.raiseFlag .returnOverrun

/-- A frame delivered by the return input: a bad one is counted, and a good one that is not IDLE is offered to the FIFO, which takes none while CRST_N is held asserted (R155, R173). -/
def State.takeReturn (s : State) (f : Frame) : State :=
  if !frameGood f then { s with ret := { s.ret with checkErrors := satAdd s.ret.checkErrors 1 } }
  else if f.kind = 0x00 then s
  else if s.link.crst then s
  else s.offerPassThrough f

/-- The IDLE frame of a return slot (R154, R162). -/
def State.idleUp (s : State) : Frame := returnFrame 0x00 s.source []

/-- A frame put on the return output. -/
def State.transmit (s : State) (f : Frame) : State := { s with out := { s.out with up := some f } }

/-- The arbiter's turn handed to the other side of the one served (R163). -/
def State.setTurn (s : State) (d : Side) : State := { s with ret := { s.ret with turn := d } }

/-- The pass-through side served: the FIFO's oldest frame leaves and is sent (R156, R157, R162, R163). -/
def State.servePassThrough (s : State) : State :=
  match s.ret.fifo with
  | [] => s
  | f :: rest =>
    (({ s with ret := { s.ret with fifo := rest, hofOut := hofAfterDeparture s.ret.hofOut rest.length } } : State).transmit f).setTurn
      .localSide

/-- The local side served: the oldest response, or the oldest report where no response waits, whose freed place is filled (R160, R162, R163). -/
def State.serveLocal (s : State) : State :=
  match s.ret.responses with
  | f :: rest => (({ s with ret := { s.ret with responses := rest } } : State).transmit f).setTurn .passThrough
  | [] =>
    match s.ret.reports with
    | f :: rest => ((({ s with ret := { s.ret with reports := rest } } : State).transmit f).setTurn .passThrough).fillPlace
    | [] => s

/-- Whether the pass-through side waits (R162). -/
def State.passWaits (s : State) : Bool := !s.ret.fifo.isEmpty

/-- Whether the local side waits (R162). -/
def State.localWaits (s : State) : Bool := !s.ret.responses.isEmpty || !s.ret.reports.isEmpty

/-- One return frame slot: IDLE while held off or in reset, else the side the arbiter chooses (R158, R162, R173). -/
def State.returnSlot (s : State) : State :=
  if s.link.crst || s.ret.hofIn then s.transmit s.idleUp
  else match s.passWaits, s.localWaits with
    | true, true =>
      match s.ret.turn with
      | .passThrough => s.servePassThrough
      | .localSide => s.serveLocal
    | true, false => s.servePassThrough
    | false, true => s.serveLocal
    | false, false => s.transmit s.idleUp

/-- RETURN_FRAME_RECEIVED (R155). -/
def execReturnFrameReceived (f : Frame) (s : State) : Host.Outcome State Fault Refusal := .next (s.begin.takeReturn f)

/-- RETURN_SIGNAL_LOST: no frame arrives until the physical layer delivers one again; the FIFO's contents stay to be sent (R174). -/
def execReturnSignalLost (s : State) : Host.Outcome State Fault Refusal := .next s.begin

/-- HOF_IN_CHANGE (R158). -/
def execHofInChange (asserted : Bool) (s : State) : Host.Outcome State Fault Refusal :=
  .next { s.begin with ret := { s.ret with hofIn := asserted } }

/-- RETURN_FRAME_SLOT (R162). -/
def execReturnFrameSlot (s : State) : Host.Outcome State Fault Refusal := .next s.begin.returnSlot

end Sys2Proof.Machine
end

