-- ==== Sys2Proof/Machine/Dispatch.lean ====
section
/-! DEFINITION. The effect of a command on everything but the queue, one arm for each row of spec/opcode_table.json. -/

namespace Sys2Proof.Machine

/-- The effect of one command on everything but the queue. -/
def exec (i : Instr) (s : State) : Host.Outcome State Fault Refusal :=
  match i with
  | .powerOnReset => Sys2Proof.Machine.execPowerOnReset s
  | .crstAsserted => Sys2Proof.Machine.execCrstAsserted s
  | .crstReleased => Sys2Proof.Machine.execCrstReleased s
  | .signalPresent => Sys2Proof.Machine.execSignalPresent s
  | .signalLost => Sys2Proof.Machine.execSignalLost s
  | .idleFrame body => Sys2Proof.Machine.execIdleFrame body s
  | .alignFrame k count rest => Sys2Proof.Machine.execAlignFrame k count rest s
  | .cycleFrame c => Sys2Proof.Machine.execCycleFrame c s
  | .exerciseFrame seed sequence => Sys2Proof.Machine.execExerciseFrame seed sequence s
  | .unknownKindFrame kind body => Sys2Proof.Machine.execUnknownKindFrame kind body s
  | .badFrame f => Sys2Proof.Machine.execBadFrame f s
  | .entryExpiry site => Sys2Proof.Machine.execEntryExpiry site s
  | .readDataWord site tag data => Sys2Proof.Machine.execReadDataWord site tag data s
  | .statusWord site bits => Sys2Proof.Machine.execStatusWord site bits s
  | .holdRequestWord site => Sys2Proof.Machine.execHoldRequestWord site s
  | .holdReleaseWord site => Sys2Proof.Machine.execHoldReleaseWord site s
  | .idleWord site => Sys2Proof.Machine.execIdleWord site s
  | .laneWordError site word => Sys2Proof.Machine.execLaneWordError site word s
  | .calibrationTick => Sys2Proof.Machine.execCalibrationTick s
  | .intervalCountExpiry => Sys2Proof.Machine.execIntervalCountExpiry s
  | .calibrationRunStart => Sys2Proof.Machine.execCalibrationRunStart s
  | .trainingScanEnd words => Sys2Proof.Machine.execTrainingScanEnd words s
  | .shadowAgreementSuccess words => Sys2Proof.Machine.execShadowAgreementSuccess words s
  | .shadowAgreementTimeout words => Sys2Proof.Machine.execShadowAgreementTimeout words s
  | .handover => Sys2Proof.Machine.execHandover s
  | .offlineScanEnd words => Sys2Proof.Machine.execOfflineScanEnd words s
  | .soakDisagreement words => Sys2Proof.Machine.execSoakDisagreement words s
  | .soakSuccess words => Sys2Proof.Machine.execSoakSuccess words s
  | .handBack => Sys2Proof.Machine.execHandBack s
  | .returnFrameReceived f => Sys2Proof.Machine.execReturnFrameReceived f s
  | .returnSignalLost => Sys2Proof.Machine.execReturnSignalLost s
  | .hofInChange asserted => Sys2Proof.Machine.execHofInChange asserted s
  | .syqInChange asserted => Sys2Proof.Machine.execSyqInChange asserted s
  | .returnFrameSlot => Sys2Proof.Machine.execReturnFrameSlot s
  | .drainComplete => Sys2Proof.Machine.execDrainComplete s
  | .summaryEnqueue => Sys2Proof.Machine.execSummaryEnqueue s
  | .pendingNoticeEnters => Sys2Proof.Machine.execPendingNoticeEnters s
  | .enumerate c p rest => Sys2Proof.Machine.execEnumerate c p rest s
  | .resync c params => Sys2Proof.Machine.execResync c params s
  | .resetPart c params => Sys2Proof.Machine.execResetPart c params s
  | .readStatus c params => Sys2Proof.Machine.execReadStatus c params s
  | .setReporting c enables mask rest => Sys2Proof.Machine.execSetReporting c enables mask rest s
  | .clearFlags c flags rest => Sys2Proof.Machine.execClearFlags c flags rest s
  | .writeTable c table start count entries => Sys2Proof.Machine.execWriteTable c table start count entries s
  | .readTable c table start rest => Sys2Proof.Machine.execReadTable c table start rest s
  | .setSites c enable drop rest => Sys2Proof.Machine.execSetSites c enable drop rest s
  | .readHeadStatus c first count rest => Sys2Proof.Machine.execReadHeadStatus c first count rest s
  | .readSiteCounts c site chunk rest => Sys2Proof.Machine.execReadSiteCounts c site chunk rest s
  | .readSiteAnalysis c site region chunk rest => Sys2Proof.Machine.execReadSiteAnalysis c site region chunk rest s
  | .openPass c number rest => Sys2Proof.Machine.execOpenPass c number rest s
  | .closePass c params => Sys2Proof.Machine.execClosePass c params s
  | .calControlStart c site rest => Sys2Proof.Machine.execCalControlStart c site rest s
  | .calControlStop c site rest => Sys2Proof.Machine.execCalControlStop c site rest s
  | .calControlAbort c site rest => Sys2Proof.Machine.execCalControlAbort c site rest s
  | .calControlRetry c site rest => Sys2Proof.Machine.execCalControlRetry c site rest s
  | .calControlStatus c site rest => Sys2Proof.Machine.execCalControlStatus c site rest s
  | .unknownRequest c code params => Sys2Proof.Machine.execUnknownRequest c code params s
  | .controlFrameNotTaken c code params => Sys2Proof.Machine.execControlFrameNotTaken c code params s

end Sys2Proof.Machine
end

