-- ==== Sys2Proof/Safety.lean ====
section
/-! DEFINITION. The terms statements are made in. First, what the spec says is always true of a part: the ranges of the tables, the capacities, the analysis records, the queues of parked sites, the pass and its summaries, the calibration states and the link, each a check over one state. Then what a statement about a command speaks of: an outcome that is a next state, the slot of a frame, a request that is executed, what a link loss does. -/

namespace Sys2Proof.Machine

/-- Every table entry lies in its range (R1, R5, R6, R7, R62). -/
def Tables.inRange (t : Tables) : Bool :=
  t.trim.toList.all (fun x => decide (4 ≤ x.latency) && decide (x.latency ≤ 63)) &&
  t.region.toList.all (fun b => decide (b.sr ≤ 4) && decide (b.sc ≤ 4)) &&
  decide (1 ≤ t.orderLength) && decide (t.orderLength ≤ 16) &&
  decide (1 ≤ t.reload.toNat) && decide (256 ≤ t.soak.toNat) && decide (t.soak.toNat ≤ 4096)

/-- Every table entry of a state lies in its range. -/
def State.tablesInRange (s : State) : Bool := s.tables.inRange

/-- The part's queues and lists hold no more than their capacities: FIFO 8, responses 4, reports 32 (R156), the pending list no flag twice (R168), queues 64 (R43), rings 8 (R52). -/
def State.buffersBounded (s : State) : Bool :=
  decide (s.ret.fifo.length ≤ 8) && decide (s.ret.responses.length ≤ 4) && decide (s.ret.reports.length ≤ 32) &&
  decide s.notice.waiting.Nodup &&
  s.sites.toList.all fun x => decide (x.queue.length ≤ 64) && decide (x.ring.length ≤ 8)

/-- The entries of a queue in the order of their pushes: the tags strictly increase from head to tail in the modular distance from the head's tag and lie within 32767 of it, and no age is greater than one nearer the head (R43, R44). -/
def queueInOrder (q : List Entry) : Bool :=
  match q with
  | [] => true
  | h :: _ =>
    let distances := q.map fun e => (e.tag - h.tag).toNat
    decide (distances.Pairwise (· < ·)) && distances.all (fun d => decide (d ≤ 32767)) &&
    decide (q.Pairwise fun a b => b.age.toNat ≤ a.age.toNat)

/-- Every expectation queue keeps its order (R43, R44). -/
def State.queuesInOrder (s : State) : Bool := s.sites.toList.all fun x => queueInOrder x.queue

/-- An analysis record keeps its budgets, its lists and its cause as R64 to R67 say. -/
def Record.sound (r : Record) : Bool :=
  decide (r.rr + r.mustRows.length = r.loadedRows) && decide (r.rc + r.mustCols.length = r.loadedCols) &&
  decide (r.loadedRows ≤ 4) && decide (r.loadedCols ≤ 4) &&
  decide r.mustRows.Nodup && decide r.mustCols.Nodup && decide r.sparse.Nodup &&
  r.sparse.all (fun p => !r.covered p) &&
  decide (r.sparse.length ≤ 2 * r.rr * r.rc) &&
  r.sparse.all (fun p => decide (r.rowCount p.1 ≤ r.rc) && decide (r.colCount p.2 ≤ r.rr)) &&
  (r.cause.isSome == (r.state == .unrepairable)) &&
  (r.state != .clean || (r.mustRows.isEmpty && r.mustCols.isEmpty && r.sparse.isEmpty))

/-- Every analysis record of every site is sound. -/
def State.recordsSound (s : State) : Bool := s.sites.toList.all fun x => x.records.toList.all Record.sound

/-- A DISABLED, DROPPED or GRANTED site has an empty queue, and a PENDING site is ENABLED with a non-empty one (R36). -/
def Site.quiet (x : Site) : Bool :=
  ((x.condition == .enabled && x.hold != .granted) || x.queue.isEmpty) &&
  (x.hold != .pending || (x.condition == .enabled && !x.queue.isEmpty))

/-- Every site's queue agrees with its condition and hold status, and no queue holds an entry outside LIVE (R36, R44, R53). -/
def State.queuesQuiet (s : State) : Bool :=
  s.sites.toList.all Site.quiet &&
  (s.link.state == .live || s.sites.toList.all fun x => x.queue.isEmpty)

/-- Counted entries exist only while a pass is OPEN or its drain is in progress, a drain with none left has ended, and summaries wait only in CLOSING with the report queue full (R55, R95, R96, R98). -/
def State.passSettled (s : State) : Bool :=
  match s.pass.state, s.pass.summary with
  | .idle, none => s.countedTotal == 0
  | .closed, none => s.countedTotal == 0
  | .opened, none => true
  | .closing, none => s.countedTotal != 0
  | .closing, some _ => s.countedTotal == 0 && !s.reportRoom
  | _, some _ => false

/-- A notice waits only while summaries wait or the report queue is full (R160, R168). -/
def State.noticesSettled (s : State) : Bool :=
  s.notice.waiting.isEmpty || s.summariesWaiting || !s.reportRoom

/-- The pairing of the spare state with the lane states (R108), with what a run in progress holds. -/
def State.calPaired (s : State) : Bool :=
  let others (i : SiteNo) : Bool := allSites.all fun j => j == i || (s.site j).lane == .online
  match s.cal.spare, s.cal.target with
  | .idle, none => (allSites.all fun j => (s.site j).lane == .online) && s.cal.boundary.isNone
  | .training, some i =>
    others i && ((s.site i).lane == .online && s.cal.boundary.isNone ||
      (s.site i).lane == .shadowed && s.cal.found.isSome && s.cal.boundary != some .handBack)
  | .standingIn, some i =>
    others i && s.cal.found.isSome && ((s.site i).lane == .offlineCal && s.cal.boundary.isNone ||
      (s.site i).lane == .soak && s.cal.working.isSome && s.cal.boundary != some .handover)
  | .committed, some i => others i && (s.site i).lane == .degraded && s.cal.found.isSome && s.cal.boundary.isNone
  | _, _ => false

/-- The rotation at rest: a due flag only while RUNNING, and none waiting while the spare is IDLE (R110, R113); a run in progress only on an ENABLED site (R114, R125, R126); the attempt count 3 only with the spare COMMITTED (R123); the interval count never 0 (R110). -/
def State.rotationSettled (s : State) : Bool :=
  (s.cal.running || !s.cal.due) && !(s.cal.due && s.cal.spare == .idle) && s.cal.count != 0 &&
  (match s.cal.spare, s.cal.target with
   | .training, some i => (s.site i).condition == .enabled && s.cal.attempts == 0
   | .standingIn, some i => (s.site i).condition == .enabled && s.cal.attempts < 3
   | .committed, _ => s.cal.attempts == 3
   | _, _ => s.cal.attempts == 0)

/-- What the Link Receiver holds in each of its states (section 7.2, R133 to R138), DOWN while CRST_N is asserted (R150). -/
def State.linkSettled (s : State) : Bool :=
  (!s.link.crst || s.link.state == .down) &&
  match s.link.state with
  | .live =>
    (match s.link.k, s.link.position with
     | some k, some p => validK k && decide (p < k.toNat)
     | _, _ => false) &&
    s.link.candidate.isNone && decide (s.link.missRun ≤ 1) && decide (s.link.errorRun ≤ 3)
  | .seek => s.link.position.isNone && s.link.missRun == 0 && s.link.errorRun == 0
  | .down => s.link.position.isNone && s.link.candidate.isNone && s.link.missRun == 0 && s.link.errorRun == 0

/-- Every check of this file at once. -/
def State.sound (s : State) : Bool :=
  s.tablesInRange && s.buffersBounded && s.queuesInOrder && s.recordsSound && s.queuesQuiet && s.passSettled && s.noticesSettled &&
  s.calPaired && s.rotationSettled && s.linkSettled

/-- An outcome is a next state, and that state has a property. -/
def Reaches (o : Host.Outcome State Fault Refusal) (P : State → Prop) : Prop := ∃ t, o = .next t ∧ P t

/-- What the Link Receiver finds in a frame: a bad check, else the kind (R131, R141). -/
def arrivalOf (f : Frame) : Arrival :=
  if frameGood f then
    match f.kind.toNat with
    | 0 => .idle
    | 1 => .align (f.body.getD 0 0) (f.body.getD 1 0)
    | 2 => .cycle
    | 3 => .control ((f.body.getD 0 0).extractLsb' 0 4).toNat (f.body.getD 1 0)
    | 4 => .exercise
    | _ => .unknown
  else .bad

/-- The part acts on a frame: it is LIVE, and the frame's slot does not complete a link loss (R138, R141). -/
def State.actsOn (s : State) (a : Arrival) : Bool := s.link.state == .live && !(s.link.count a).lossDue

/-- The state after a frame's slot, before what its kind does besides: counted, forwarded, every entry aged and tested, a NOP at every port that is not parked (R23, R44, R48, R132; the order of these is that of log entries 7 and 35). -/
def State.slotOf (s : State) (f : Frame) (a : Arrival) : State :=
  State.plainSlot (State.ageAll { s.begin.forward f a with link := s.link.count a })

/-- The state after the slot of a CONTROL frame, in which its request finds the part: that the slot's NOPs come before the request is the model's choice (log entry 35). -/
def State.controlSlot (s : State) (c : Ctl) (code : Byte) (params : List Byte) : State :=
  s.slotOf (controlFrame c code params) (.control (ctlTarget c) code)

/-- The request of a good CONTROL frame is executed: the part acts on the frame, takes it, and the response queue has room (R175, R176). -/
def State.executes (s : State) (c : Ctl) (code : Byte) : Bool :=
  s.actsOn (.control (ctlTarget c) code) && s.takes c && s.responseRoom

/-- A RESPONSE frame by its bytes: source, tag, request code, status byte, data, zeros (R179, section 10.3). -/
def State.responseBytes (s : State) (c : Ctl) (code status : Byte) (data : List Byte) : Frame :=
  mkFrame 0x81 (s.source :: c.tag :: code :: status :: data)

/-- A response, and nothing else, has joined the response queue. -/
def State.responded (s : State) (f : Frame) : State := { s with ret := { s.ret with responses := s.ret.responses ++ [f] } }

/-- The commands that the last step put on a site's command lane, in order (R23 to R25). -/
def State.laneCommands (s : State) (i : SiteNo) : List SiteCommand :=
  (s.out.commands.filter fun x => x.1 == i).map Prod.snd

/-- What a port that parks puts on its lane: HOLD_GRANT and PARK where its hold is granted, else PARK where the lane holds another command (R24, R25). -/
def parkingCommands (granted : Bool) (x : Site) : List SiteCommand :=
  if granted then [.holdGrant, .park] else if x.command = .park then [] else [.park]

/-- Whether a site port is parked in a link state, by its condition and hold status (R24). -/
def portParked (live : Bool) (x : Site) : Bool := !live || x.condition != .enabled || x.hold == .granted

/-- A site after the slot of a frame that is no expanded CYCLE: its entries one slot older, those past the limit lost, a PENDING hold granted when they were the last, a NOP unless the port is parked (R23, R34, R44, R46, R48; that the port so granted gets no NOP in this slot is the model's choice, log entry 35). -/
def slotSite (live : Bool) (limit : Nat) (x : Site) : Site :=
  let aged := ageQueue x.queue
  let gone := aged.takeWhile (·.past limit)
  let left := aged.drop gone.length
  let granted := !gone.isEmpty && left.isEmpty && x.hold == .pending
  let y : Site := { x with
    queue := left
    counts := { x.counts with lost := satAdd x.counts.lost (countedIn gone) }
    flags := { x.flags with coverageGap := x.flags.coverageGap || 0 < countedIn gone }
    hold := if granted then .granted else x.hold }
  { y with command := if granted then .park else if portParked live y then x.command else .nop }

/-- What a link loss leaves of a site: an empty queue, its counted entries lost, COVERAGE_GAP for them and, while the pass is OPEN, at an ENABLED site, a PENDING hold granted when entries were flushed, PARK on the lane (R24, R34, R53). -/
def lostSite (opened : Bool) (x : Site) : Site :=
  { x with
    queue := []
    counts := { x.counts with lost := satAdd x.counts.lost (countedIn x.queue) }
    flags := { x.flags with
      coverageGap := x.flags.coverageGap || 0 < countedIn x.queue || (opened && x.condition == .enabled) }
    hold := if x.hold = .pending ∧ x.queue ≠ [] then .granted else x.hold
    command := .park }

/-- A part as its removals leave it, before the reports they give rise to: everything as in t, but the pass, the report queue and the notices as in s (R55). -/
def beforeReport (s t : State) : State :=
  { t with pass := s.pass, ret := { t.ret with reports := s.ret.reports }, notice := s.notice }

/-- The pass, the report queue and the notices of t are those of v. -/
def Reported (v t : State) : Prop := t.pass = v.pass ∧ t.ret.reports = v.ret.reports ∧ t.notice = v.notice

/-- A step that both sets SITE_DROPPED and discards entries, from v, whose discards are done: where counted entries were among them, the drain that their removal may end is settled after the notice or before it, the two orders that R100 leaves open (log entry 3); else the notice alone is set. -/
def DropsReported (drains : Prop) (v t : State) : Prop :=
  (drains → Reported (v.raiseFlag .siteDropped).settleDrain t ∨ Reported (v.settleDrain.raiseFlag .siteDropped) t) ∧
  (¬drains → Reported (v.raiseFlag .siteDropped) t)

/-- What a link loss does to a part, the state of the Link Receiver itself apart: every site as `lostSite` says, the loss outstanding, what each lane is given, and everything the spec calls unchanged by it unchanged; the pass, the notices due and the reports too unless the loss ends the drain of a closing pass, and then they are those that the end of the drain leaves after the flush (R53, R55, R96, R103, R138). -/
def Loses (s t : State) : Prop :=
  (∀ i, t.site i = lostSite (s.pass.state == .opened) (s.site i)) ∧
  t.link.k = s.link.k ∧ t.link.lastCount = s.link.lastCount ∧ t.link.candidate = none ∧ t.link.position = none ∧
  t.link.missRun = 0 ∧ t.link.errorRun = 0 ∧ t.link.checkErrors = s.link.checkErrors ∧
  t.link.unknownKinds = s.link.unknownKinds ∧ t.link.exerciseErrors = s.link.exerciseErrors ∧
  t.link.crst = s.link.crst ∧ t.link.syqIn = s.link.syqIn ∧
  t.notice.lossOutstanding = true ∧ t.notice.mask = s.notice.mask ∧
  t.chainPos = s.chainPos ∧ t.cause = s.cause ∧ t.revision = s.revision ∧ t.tables = s.tables ∧
  t.expander = s.expander ∧ t.cal = s.cal ∧ t.draws = s.draws ∧ t.pending = s.pending ∧ t.pass.number = s.pass.number ∧
  { t.ret with reports := [] } = { s.ret with reports := [] } ∧
  (∀ i, t.laneCommands i =
    s.laneCommands i ++ parkingCommands (decide ((s.site i).hold = .pending ∧ (s.site i).queue ≠ [])) (s.site i)) ∧
  (s.draining = false →
    t.pass = s.pass ∧ t.ret = s.ret ∧ t.notice = { s.notice with lossOutstanding := true }) ∧
  (let flushed : State := { beforeReport s t with notice := { s.notice with lossOutstanding := true } }
   ((∃ i, (s.site i).queue ≠ []) → Reported flushed.settleDrain t) ∧
   ((∀ i, (s.site i).queue = []) → Reported flushed t))

/-- The entry a READ of an expanded frame pushes, with the numbering that frame leaves (R15, R21). -/
def pushedEntry (s : State) (c : Cycle) : Entry :=
  { tag := c.number, age := 0, expected := s.physicalData c.address c.data, mask := c.mask
    region := s.regionOf c.address, row := s.rowOf c.address, col := s.colOf c.address
    mark := c.flags.getLsbD 0, counted := s.pass.state == .opened
    ext := (s.expander.track c.number).upper ++ (s.expander.track c.number).last }

/-- A site after an expanded CYCLE frame in whose slot no entry expires: the table of R20 with R21, R19 and R16. -/
def portAfter (s : State) (c : Cycle) (i : SiteNo) : Site :=
  let opened := s.pass.state == .opened
  let x := s.site i
  let gap := s.expander.gapAt c.number && opened && x.condition == .enabled
  let y : Site := { x with
    queue := ageQueue x.queue
    flags := { x.flags with coverageGap := x.flags.coverageGap || gap } }
  let set := s.tables.timing.get (setIndexOf c.setByte)
  match x.condition, x.hold, c.op.toNat with
  | .enabled, .free, 1 =>
    { y with command := .write (s.rowOf c.address) (s.colOf c.address) (s.regionOf c.address) (s.physicalData c.address c.data) set.drive }
  | .enabled, .free, 2 =>
    if acceptsRead y.queue c.number then
      { y with
        queue := y.queue ++ [pushedEntry s c]
        flags := { y.flags with
          tested := y.flags.tested || opened
          strobeClamped := y.flags.strobeClamped || strobeLimited set (s.trim i) }
        command :=
          .read (s.rowOf c.address) (s.colOf c.address) (s.regionOf c.address) set.drive (strobeCode set (s.trim i)) c.number }
    else
      { y with
        counts := { y.counts with skipped := satAdd y.counts.skipped 1 }
        flags := { y.flags with coverageGap := y.flags.coverageGap || opened }
        command := .nop }
  | .enabled, .free, _ => { y with command := .nop }
  | .enabled, .pending, op =>
    if (op = 1 ∨ op = 2) ∧ opened then
      { y with
        counts := { y.counts with skipped := satAdd y.counts.skipped 1 }
        flags := { y.flags with coverageGap := true }
        command := .nop }
    else { y with command := .nop }
  | _, _, _ => y

/-- The request a CONTROL frame row carries: its header, request code and parameter bytes (sections 10.2, 10.5, 10.6). -/
def controlOf : Instr → Option (Ctl × Byte × List Byte)
  | .enumerate c p rest => some (c, 0x01, p :: rest)
  | .resync c params => some (c, 0x02, params)
  | .resetPart c params => some (c, 0x03, params)
  | .readStatus c params => some (c, 0x04, params)
  | .setReporting c enables mask rest => some (c, 0x05, be16 enables ++ mask :: rest)
  | .clearFlags c flags rest => some (c, 0x06, flags :: rest)
  | .writeTable c table start count entries => some (c, 0x10, table :: start :: count :: entries)
  | .readTable c table start rest => some (c, 0x11, table :: start :: rest)
  | .setSites c enable drop rest => some (c, 0x20, be16 enable ++ be16 drop ++ rest)
  | .readHeadStatus c first count rest => some (c, 0x21, first :: count :: rest)
  | .readSiteCounts c site chunk rest => some (c, 0x22, site :: chunk :: rest)
  | .readSiteAnalysis c site region chunk rest => some (c, 0x23, site :: region :: chunk :: rest)
  | .openPass c number rest => some (c, 0x30, number :: rest)
  | .closePass c params => some (c, 0x31, params)
  | .calControlStart c site rest => some (c, 0x40, 1 :: site :: rest)
  | .calControlStop c site rest => some (c, 0x40, 2 :: site :: rest)
  | .calControlAbort c site rest => some (c, 0x40, 3 :: site :: rest)
  | .calControlRetry c site rest => some (c, 0x40, 4 :: site :: rest)
  | .calControlStatus c site rest => some (c, 0x40, 5 :: site :: rest)
  | .unknownRequest c code params => some (c, code, params)
  | .controlFrameNotTaken c code params => some (c, code, params)
  | _ => none

/-- The calibration items once the spare is IDLE and detached and nothing of a run is left (R118, R122, R124). -/
def Cal.released (x : Cal) : Cal :=
  { x with
    spare := .idle, target := none, found := none, working := none, attempts := 0
    scan := {}, words := 0, run := 0, soakLength := 0, boundary := none }

/-- Whether a site is the target of a run that its departure from ENABLED ends: the spare is TRAINING or STANDING_IN on it (R126). -/
def State.runsOn (s : State) (i : SiteNo) : Prop :=
  s.cal.target = some i ∧ (s.cal.spare = .training ∨ s.cal.spare = .standingIn)

/-- A soak has succeeded and its hand-back waits for the word boundary (R122). -/
def Cal.handBackDue (x : Cal) : Prop := x.spare = .standingIn ∧ x.boundary = some .handBack

/-- What the departure of sites from ENABLED leaves of calibration (R126, R128). Where site i leaves and a run is in progress on it, the run ends: the spare IDLE, the target absent, the attempt count 0, and a start attempted where the due flag is set; a hand-back that waits is made first, the working phase written and the run counted (log entries 12 and 13). The start is attempted with the conditions as they stand after the departure (log entry 34). Where no such site leaves, nothing changes. -/
def Departs (leaves : SiteNo → Prop) (s t : State) : Prop :=
  (∀ i, leaves i → s.runsOn i →
    (s.cal.handBackDue →
      t.cal = (State.attemptRun { t with cal := { s.cal.released with runs := satAdd s.cal.runs 1 } }).cal ∧
      ∀ p : Phase, s.cal.working = some p →
        t.tables = { s.tables with trim := s.tables.trim.set i { s.trim i with phase := p } }) ∧
    (¬s.cal.handBackDue → t.cal = (State.attemptRun { t with cal := s.cal.released }).cal ∧ t.tables = s.tables)) ∧
  ((∀ i, leaves i → ¬s.runsOn i) → t.cal = s.cal ∧ t.tables = s.tables)

/-- LANE_WORD_ERROR on site i's lane: the carrier's word is counted in u, and is the one word period given to the stage in progress there (R26, R127). -/
def Spoils (s : State) (i : SiteNo) (row : Instr) (given : List WordPair) (u : State) : Prop :=
  ∃ word : WordPair, row = .laneWordError i word ∧ given = [word] ∧
    u = s.begin.setSite i { s.site i with laneErrors := satAdd (s.site i).laneErrors 1 }

/-- The calibration items as an offline scan begins (R120, R123, R125). -/
def Cal.offline (x : Cal) : Cal :=
  { x with
    spare := .standingIn, working := none, scan := {}, words := 0, run := 0, soakLength := 0, boundary := none }

/-- A run of n passing phases from phase p on (R116). -/
def PhaseRun (passed : BitVec 64) (p n : Nat) : Prop := p + n ≤ 64 ∧ ∀ k < n, passed.getLsbD (p + k) = true

/-- The window of a scan: a longest run of passing phases, with the lowest start among those of its length (R116). -/
def IsWindow (passed : BitVec 64) (p n : Nat) : Prop :=
  1 ≤ n ∧ PhaseRun passed p n ∧ (∀ q m, PhaseRun passed q m → m ≤ n) ∧ ∀ q, PhaseRun passed q n → p ≤ q

/-- A choice of replaced rows and columns covers every fail of a list. -/
def Covers (rows : Finset Half) (cols : Finset Col) (fails : List (Half × Col)) : Prop :=
  ∀ p ∈ fails, p.1 ∈ rows ∨ p.2 ∈ cols

/-- The record of a region loaded with budgets after the counted fails of a list were taken in order. -/
def Record.after (b : Budget) (fails : List (Half × Col)) : Record := fails.foldl Record.take (Record.load b)

end Sys2Proof.Machine
end

