-- ==== Sys2Proof/WellFormed.lean ====
section
/-! DEFINITION. Well-formed commands: operand lists of the lengths the formats give (Chapter 10), a bad frame whose check is bad, a kind and a request code that are unknown, a return word that fails its check, and a calibration stage's words within the stage's length. -/

namespace Sys2Proof

open Machine

/-- A kind code that is none of the five downstream kinds (R131). -/
def unknownKind (kind : Byte) : Bool := 4 < kind.toNat

/-- The fifteen request codes (section 10.5). -/
def requestCodes : List Nat :=
  [0x01, 0x02, 0x03, 0x04, 0x05, 0x06, 0x10, 0x11, 0x20, 0x21, 0x22, 0x23, 0x30, 0x31, 0x40]

/-- A request that has no row of its own: a code that is none of the fifteen, or a CAL CONTROL whose action is none of the five (R111, R180). -/
def unknownRequestCode (code action : Byte) : Bool :=
  !requestCodes.contains code.toNat || (code == 0x40 && (action.toNat == 0 || 5 < action.toNat))

/-- A frame of 32 bytes. -/
def wholeFrame (f : Frame) : Bool := f.body.length == 29

/-- A list of word periods of a stage that is at most n words long, the carrier's word of each passing R26. -/
def stageWords (n : Nat) (words : List WordPair) : Bool := !words.isEmpty && words.length ≤ n && words.all fun p => passesCheck p.reference

/-- The well-formedness of a command. -/
def Instr.wellFormed : Instr → Bool
  | .idleFrame body => body.length == 29
  | .alignFrame _ _ rest => rest.length == 27
  | .cycleFrame c => c.rest.length == 16
  | .exerciseFrame _ sequence => sequence.length == 27
  | .unknownKindFrame kind body => unknownKind kind && body.length == 29
  | .badFrame f => wholeFrame f && !frameGood f
  | .laneWordError _ word => !passesCheck word.reference
  | .trainingScanEnd words => stageWords 1024 words
  | .shadowAgreementSuccess words => stageWords 1024 words
  | .shadowAgreementTimeout words => stageWords 1024 words
  | .offlineScanEnd words => stageWords 1024 words
  | .soakDisagreement words => stageWords 4096 words
  | .soakSuccess words => stageWords 4096 words
  | .returnFrameReceived f => wholeFrame f
  | .enumerate _ _ rest => rest.length == 25
  | .resync _ params => params.length == 26
  | .resetPart _ params => params.length == 26
  | .readStatus _ params => params.length == 26
  | .setReporting _ _ _ rest => rest.length == 23
  | .clearFlags _ _ rest => rest.length == 25
  | .writeTable _ _ _ _ entries => entries.length == 23
  | .readTable _ _ _ rest => rest.length == 24
  | .setSites _ _ _ rest => rest.length == 22
  | .readHeadStatus _ _ _ rest => rest.length == 24
  | .readSiteCounts _ _ _ rest => rest.length == 24
  | .readSiteAnalysis _ _ _ _ rest => rest.length == 23
  | .openPass _ _ rest => rest.length == 25
  | .closePass _ params => params.length == 26
  | .calControlStart _ _ rest => rest.length == 24
  | .calControlStop _ _ rest => rest.length == 24
  | .calControlAbort _ _ rest => rest.length == 24
  | .calControlRetry _ _ rest => rest.length == 24
  | .calControlStatus _ _ rest => rest.length == 24
  | .unknownRequest _ code params => params.length == 26 && unknownRequestCode code (params.getD 0 0)
  | .controlFrameNotTaken _ _ params => params.length == 26
  | .powerOnReset => true
  | .crstAsserted => true
  | .crstReleased => true
  | .signalPresent => true
  | .signalLost => true
  | .entryExpiry _ => true
  | .readDataWord _ _ _ => true
  | .statusWord _ _ => true
  | .holdRequestWord _ => true
  | .holdReleaseWord _ => true
  | .idleWord _ => true
  | .calibrationTick => true
  | .intervalCountExpiry => true
  | .calibrationRunStart => true
  | .handover => true
  | .handBack => true
  | .returnSignalLost => true
  | .hofInChange _ => true
  | .syqInChange _ => true
  | .returnFrameSlot => true
  | .drainComplete => true
  | .summaryEnqueue => true
  | .pendingNoticeEnters => true

end Sys2Proof
end

