-- ==== Sys2Proof/Certificates/Slice0/Obligations.lean ====
section
/-! DEFINITION. The statements made about the model, for the provers: one definition each, with the rules of spec/ it rests on. -/

open Sys2Proof Sys2Proof.Machine

/-- A step takes the command at the front of the queue and is exec of it on the state with the queue's rest; on an empty queue the part idles (the model's own queue, log entry 4). -/
def Obligations.StepRunsTheFrontCommand : Prop :=
  (∀ (c : Instr) (rest : List Instr) (s : State), s.pending = c :: rest → step s = exec c { s with pending := rest }) ∧
  (∀ s : State, s.pending = [] → step s = .next s)

/-- Every command completes in every state (the model has no stop, log entry 23), and none changes the queue, the revision (R185) or the factory phase store (section 1.1). -/
def Obligations.EveryCommandCompletesAndKeepsIdentity : Prop :=
  ∀ (c : Instr) (s : State), Reaches (exec c s) fun t =>
    t.pending = s.pending ∧ t.revision = s.revision ∧ t.tables.factory = s.tables.factory

/-- The state after reset passes every check of Safety.lean (the values the manual gives no table for are the model's, log entries 15, 25 and 27). -/
def Obligations.ResetStateIsSound : Prop := State.reset.sound = true

/-- Three tables of values after the three kinds of reset, whole. Pass Control's items, with those after an accepted OPEN PASS (R105); the Link Receiver, the outstanding loss, the chain position and SYQ_OUT (R152); the Control Request Unit's items, with the response queue and REQUESTS_LOST beside them, where only a broadcast is taken after power-on reset and after the line's reset (R191). `u` is the state in which a request finds the part. -/
def Obligations.ResetItemsOfPassLinkAndControl : Prop :=
  (State.reset.pass = { state := .idle, number := 0, summary := none } ∧
   (∀ s : State, Reaches (exec .powerOnReset s) fun t => t.pass = { state := .idle, number := 0, summary := none }) ∧
   (∀ s : State, s.link.crst = false →
     Reaches (exec .crstAsserted s) fun t => t.pass = { state := .idle, number := 0, summary := none }) ∧
   (∀ (s : State) (c : Ctl) (params : List Byte), s.executes c 0x03 →
     Reaches (exec (.resetPart c params) s) fun t => t.pass = { state := .idle, number := 0, summary := none }) ∧
   (∀ (s : State) (c : Ctl) (number : Byte) (rest : List Byte), s.executes c 0x30 →
     let u := s.controlSlot c 0x30 (number :: rest)
     u.pass.state = .idle ∨ u.pass.state = .closed →
     Reaches (exec (.openPass c number rest) s) fun t => t.pass = { state := .opened, number := number, summary := none })) ∧
  (let cleared (t : State) : Prop :=
     t.link.state = .down ∧ t.link.k = none ∧ t.link.lastCount = none ∧ t.link.position = none ∧ t.link.candidate = none ∧
     t.link.missRun = 0 ∧ t.link.errorRun = 0 ∧ t.link.checkErrors = 0 ∧ t.link.unknownKinds = 0 ∧
     t.link.exerciseErrors = 0 ∧ t.notice.lossOutstanding = false ∧ t.chainPos = none ∧ t.syqOut = true
   cleared State.reset ∧
   (∀ s : State, Reaches (exec .powerOnReset s) cleared) ∧
   (∀ s : State, s.link.crst = false → Reaches (exec .crstAsserted s) cleared) ∧
   (∀ (s : State) (c : Ctl) (params : List Byte), s.executes c 0x03 →
     let u := s.controlSlot c 0x03 params
     Reaches (exec (.resetPart c params) s) fun t =>
       t.link = { u.link with checkErrors := 0, unknownKinds := 0, exerciseErrors := 0 } ∧
       t.notice.lossOutstanding = false ∧ t.chainPos = s.chainPos ∧
       (t.syqOut = true ↔ t.link.state = .down ∨ t.link.state = .seek ∨ t.link.syqIn = true))) ∧
  (let started (cause : ResetCause) (s t : State) : Prop :=
     t.chainPos = none ∧ t.cause = cause ∧ t.identity = [0x04, 0x16, s.revision] ∧ bitOf t.notice.flags 7 = false ∧
     t.ret.responses = [] ∧ t.link.state ≠ .live ∧ (∀ c : Ctl, t.takes c = true ↔ ctlTarget c = 15)
   started .powerOn State.reset State.reset ∧
   (∀ s : State, Reaches (exec .powerOnReset s) (started .powerOn s)) ∧
   (∀ s : State, s.link.crst = false → Reaches (exec .crstAsserted s) (started .chainLine s)) ∧
   (∀ (s : State) (c : Ctl) (params : List Byte), s.executes c 0x03 →
     Reaches (exec (.resetPart c params) s) fun t =>
       t.chainPos = s.chainPos ∧ t.cause = .chainRequest ∧ t.identity = [0x04, 0x16, s.revision] ∧
       bitOf t.notice.flags 7 = false ∧
       t.ret.responses = [t.responseBytes c 0x03 0 [0x04, 0x16, s.revision, 2, t.source]]))

/-- The analysis records after each reset and after an accepted OPEN PASS, and what each does to the region table (R87). Both kinds of reset empty every queue without accounting and clear the counts, the ring and the flags; a word answered afterwards is a stray; a reset in CLOSING leaves no pass and no summary (R61). A reset puts nothing but PARK on a lane; that a RESET PART does so after the NOPs and grants of its own slot is the model's choice (log entry 35). -/
def Obligations.RecordsQueuesAndFlagsAfterResets : Prop :=
  (let cleared (t : State) : Prop := ∀ (i : SiteNo) (g : RegionNo),
     (t.site i).verdict = .clean ∧ (t.site i).records.get g =
       { state := .clean, loadedRows := 0, loadedCols := 0, rr := 0, rc := 0,
         mustRows := [], mustCols := [], sparse := [], cause := none }
   (∀ s : State, Reaches (exec .powerOnReset s) fun t =>
     cleared t ∧ ∀ g : RegionNo, t.tables.region.get g = { sr := 0, sc := 0 }) ∧
   (∀ s : State, s.link.crst = false → Reaches (exec .crstAsserted s) fun t =>
     cleared t ∧ t.tables.region = s.tables.region) ∧
   (∀ (s : State) (c : Ctl) (params : List Byte), s.executes c 0x03 →
     Reaches (exec (.resetPart c params) s) fun t => cleared t ∧ t.tables.region = s.tables.region) ∧
   (∀ (s : State) (c : Ctl) (number : Byte) (rest : List Byte), s.executes c 0x30 →
     let u := s.controlSlot c 0x30 (number :: rest)
     u.pass.state = .idle ∨ u.pass.state = .closed →
     Reaches (exec (.openPass c number rest) s) fun t =>
       t.tables.region = s.tables.region ∧
       ∀ (i : SiteNo) (g : RegionNo), (t.site i).verdict = .clean ∧
         (t.site i).records.get g =
           { state := .clean, loadedRows := (s.tables.region.get g).sr, loadedCols := (s.tables.region.get g).sc,
             rr := (s.tables.region.get g).sr, rc := (s.tables.region.get g).sc,
             mustRows := [], mustCols := [], sparse := [], cause := none })) ∧
  (let cleared (t : State) : Prop :=
     (∀ i : SiteNo, (t.site i).queue = [] ∧ countedIn (t.site i).queue = 0 ∧ (t.site i).ring = [] ∧
       (t.site i).counts = { compares := 0, fails := 0, lost := 0, skipped := 0, strays := 0, ringWrites := 0 } ∧
       (t.site i).flags = { coverageGap := false, strobeClamped := false, tested := false, laneDegraded := false } ∧
       (t.site i).lane ≠ .degraded) ∧
     t.pass.state = .idle ∧ t.pass.summary = none ∧ t.ret.reports = [] ∧
     (∀ (i : SiteNo) (tag data : Half), Reaches (exec (.readDataWord i tag data) t) fun v => (v.site i).counts.strays = 1)
   (∀ s : State, Reaches (exec .powerOnReset s) fun t => cleared t ∧ t.out.commands = []) ∧
   (∀ s : State, s.link.crst = false →
     Reaches (exec .crstAsserted s) fun t => cleared t ∧ ∀ x ∈ t.out.commands, x.2 = .park) ∧
   (∀ (s : State) (c : Ctl) (params : List Byte), s.executes c 0x03 →
     let u := s.controlSlot c 0x03 params
     Reaches (exec (.resetPart c params) s) fun t =>
       cleared t ∧ ∃ parks : List (SiteNo × SiteCommand),
         t.out.commands = u.out.commands ++ parks ∧ ∀ x ∈ parks, x.2 = .park))

/-- Site Control's items and the parking of every port after each reset (section 2.7); the stored tables and the cycle numbering after power-on reset, and the tables kept by both chain resets (section 1.9). -/
def Obligations.SitePortsTablesAndNumberingAfterResets : Prop :=
  (let cleared (t : State) : Prop := ∀ i : SiteNo,
     (t.site i).condition = .disabled ∧ (t.site i).hold = .free ∧ (t.site i).dropOn = false ∧
     (t.site i).snapshot = 0 ∧ (t.site i).changed = false ∧ (t.site i).laneErrors = 0 ∧ t.parked i = true ∧
     (t.site i).command = .park
   (∀ s : State, Reaches (exec .powerOnReset s) fun t => cleared t ∧ ∀ i : SiteNo, (t.site i).current = 0) ∧
   (∀ s : State, s.link.crst = false → Reaches (exec .crstAsserted s) fun t =>
     cleared t ∧ ∀ i : SiteNo, (t.site i).current = (s.site i).current) ∧
   (∀ (s : State) (c : Ctl) (params : List Byte), s.executes c 0x03 →
     Reaches (exec (.resetPart c params) s) fun t =>
       cleared t ∧ ∀ i : SiteNo, (t.site i).current = (s.site i).current)) ∧
  ((∀ s : State, Reaches (exec .powerOnReset s) fun t =>
     (∀ k : Fin 16, t.tables.timing.get k = { drive := 0, base := 0, eye := .early }) ∧
     (∀ k : Fin 31, t.tables.scramble.get k = { source := .const0, invert := false }) ∧
     (∀ k : Fin 8, t.tables.selector.get k = .row 0) ∧ (∀ k : Fin 256, t.tables.topology.get k = 0) ∧
     (∀ k : Fin 8, t.tables.region.get k = { sr := 0, sc := 0 }) ∧
     (∀ k : Fin 16, t.tables.trim.get k =
       { early := 0, late := 0, latency := 16, phase := s.tables.factory.get (k.castLE (by decide)) }) ∧
     t.expander = { last := 0, upper := 0, start := true, gaps := 0 }) ∧
   (∀ s : State, s.link.crst = false → Reaches (exec .crstAsserted s) fun t =>
     t.tables = s.tables ∧ t.expander = { last := 0, upper := 0, start := true, gaps := 0 }) ∧
   (∀ (s : State) (c : Ctl) (params : List Byte), s.executes c 0x03 →
     Reaches (exec (.resetPart c params) s) fun t =>
       t.tables = s.tables ∧ t.expander = { last := 0, upper := 0, start := true, gaps := 0 }))

/-- Calibration after power-on reset and after chain reset, with the phases each sampler then stands at (R130); the Return Merger and the Notice Unit after each reset, and the return link while CRST_N is held asserted (R173). -/
def Obligations.CalibrationAndReturnLinkAfterResets : Prop :=
  (let rested (factory : Vector Phase 17) (t : State) : Prop :=
     (∀ i : SiteNo, (t.site i).lane = .online ∧ (t.site i).lane.carrier = .own) ∧
     t.cal.spare = .idle ∧ t.sparePhase = factory.get 16 ∧ t.cal.target = none ∧ t.cal.attempts = 0 ∧
     t.cal.running = false ∧ t.cal.due = false ∧ t.cal.index = 0 ∧ t.cal.runs = 0 ∧ t.cal.trainingFailures = 0 ∧
     t.tables.factory = factory
   let chained (s t : State) : Prop :=
     rested s.tables.factory t ∧ t.cal.count = s.tables.reload ∧ t.tables = s.tables ∧
     ∀ i : SiteNo, t.ownPhase i = (s.trim i).phase
   (∀ s : State, Reaches (exec .powerOnReset s) fun t =>
     rested s.tables.factory t ∧ t.cal.count = 1000 ∧ t.tables.reload = 1000 ∧ t.tables.soak = 1024 ∧
     t.tables.orderLength = 16 ∧
     ∀ i : SiteNo, t.tables.order.get i = i ∧ t.ownPhase i = s.tables.factory.get (i.castLE (by decide)) ∧
       (t.trim i).phase = s.tables.factory.get (i.castLE (by decide))) ∧
   (∀ s : State, s.link.crst = false → Reaches (exec .crstAsserted s) (chained s)) ∧
   (∀ (s : State) (c : Ctl) (params : List Byte), s.executes c 0x03 → Reaches (exec (.resetPart c params) s) (chained s))) ∧
  (let cleared (t : State) : Prop :=
     t.ret.fifo = [] ∧ t.ret.reports = [] ∧ t.ret.hofOut = false ∧ t.ret.turn = .passThrough ∧ t.notice.flags = 0 ∧
     t.notice.waiting = [] ∧ t.notice.lossOutstanding = false ∧ t.ret.drops = 0 ∧ t.ret.checkErrors = 0
   (∀ s : State, Reaches (exec .powerOnReset s) fun t =>
     cleared t ∧ t.ret.responses = [] ∧ t.ret.rawLog = 0 ∧ t.notice.mask = 0) ∧
   (∀ s : State, s.link.crst = false → Reaches (exec .crstAsserted s) fun t =>
     cleared t ∧ t.ret.responses = [] ∧ t.ret.rawLog = s.ret.rawLog ∧ t.notice.mask = s.notice.mask) ∧
   (∀ (s : State) (c : Ctl) (params : List Byte), s.executes c 0x03 →
     Reaches (exec (.resetPart c params) s) fun t =>
       cleared t ∧ t.ret.responses = [t.responseBytes c 0x03 0 [0x04, 0x16, s.revision, 2, t.source]] ∧
       t.ret.rawLog = s.ret.rawLog ∧ t.notice.mask = s.notice.mask) ∧
   (∀ s : State, s.link.crst = true →
     (Reaches (exec .returnFrameSlot s) fun t =>
       t.out.up.map Frame.kind = some 0x00 ∧ t.ret = s.ret) ∧
     ∀ f : Frame, Reaches (exec (.returnFrameReceived f) s) fun t => t.ret.fifo = s.ret.fifo ∧ t.ret.hofOut = s.ret.hofOut))

/-- Signal present, the release of CRST_N and signal lost outside LIVE move the receiver between DOWN and SEEK, and nothing else of the part; release and signal present come to SEEK in either order. HOF_IN and SYQ_IN follow their lines, and SYQ_OUT is asserted exactly while the receiver is DOWN or SEEK or SYQ_IN is asserted (sections 7.2, 7.3, 7.9 and 8.2). -/
def Obligations.ReceiverMovesBetweenDownAndSeek : Prop :=
  (∀ s : State,
     (s.link.state = .down → s.link.crst = false →
       exec .signalPresent s = .next { s.begin with link := { s.link with signal := true, state := .seek, candidate := none } }) ∧
     (s.link.state ≠ .down ∨ s.link.crst = true →
       exec .signalPresent s = .next { s.begin with link := { s.link with signal := true } }) ∧
     (s.link.crst = true → s.link.state = .down → s.link.signal = true →
       exec .crstReleased s = .next { s.begin with link := { s.link with crst := false, state := .seek, candidate := none } }) ∧
     (s.link.crst = false ∨ s.link.state ≠ .down ∨ s.link.signal = false →
       exec .crstReleased s = .next { s.begin with link := { s.link with crst := false } }) ∧
     (s.link.state = .seek →
       exec .signalLost s = .next { s.begin with link := { s.link with signal := false, state := .down, candidate := none } }) ∧
     (s.link.state = .down → exec .signalLost s = .next { s.begin with link := { s.link with signal := false } }) ∧
     (s.link.state = .down → s.link.crst = true → s.link.signal = false →
       (Reaches (exec .crstReleased s) fun t => Reaches (exec .signalPresent t) fun v => v.link.state = .seek) ∧
       (Reaches (exec .signalPresent s) fun t => Reaches (exec .crstReleased t) fun v => v.link.state = .seek))) ∧
  (∀ (asserted : Bool) (s : State),
     exec (.hofInChange asserted) s = .next { s.begin with ret := { s.ret with hofIn := asserted } } ∧
     exec (.syqInChange asserted) s = .next { s.begin with link := { s.link with syqIn := asserted } } ∧
     (s.syqOut = true ↔ s.link.state = .down ∨ s.link.state = .seek ∨ s.link.syqIn = true))

/-- Link loss by signal lost in LIVE, by an executed RESYNC and by a frame that brings a run to its limit: the same effects, the HOLD_GRANT and PARK of each lane among them and, where the flush removes the last counted entries of a drain, its end with the summaries that begin, the last two ending in SEEK, the first in DOWN (R138 with R25, R34, R53, R55, R96, R103, R139, R149; the order of the frame's count, its forwarding and the loss is the model's inference, log entry 8, as is that of the grants, log entry 9; that the frame's slot gives no NOP before the ports park is its choice, log entry 30; that the slot of an executed RESYNC gives each port its NOP before the request parks it is its choice too, log entry 35). -/
def Obligations.LinkLossEffects : Prop :=
  (∀ s : State, s.link.state = .live →
    Reaches (exec .signalLost s) fun t => Loses s.begin t ∧ t.link.state = .down ∧ t.link.signal = false) ∧
  (∀ (s : State) (c : Ctl) (params : List Byte), s.executes c 0x02 → ctlTarget c ≠ 15 →
    let u := s.controlSlot c 0x02 params
    Reaches (exec (.resync c params) s) fun t =>
      Loses (u.responded (u.responseBytes c 0x02 0 [2, u.link.k.getD 0, u.link.lastCount.getD 0])) t ∧
      t.link.state = .seek ∧ t.link.signal = s.link.signal) ∧
  (∀ (f : Frame) (s : State), wholeFrame f → s.link.state = .live → (s.link.count (arrivalOf f)).lossDue = true →
    Reaches (exec (decodeFrame f) s) fun t =>
      Loses { s.begin with link := s.link.count (arrivalOf f) } t ∧ t.link.state = .seek ∧ t.link.signal = s.link.signal ∧
      t.out.down = some (s.outgoing f (arrivalOf f)))

/-- The search for alignment in SEEK, for every frame that can be delivered (R134, with R135 at the confirming frame). -/
def Obligations.SeekSearchesForAlignment : Prop :=
  ∀ (f : Frame) (s : State), wholeFrame f → s.link.state = .seek → (∀ i : SiteNo, (s.site i).queue = []) →
    let held := s.link.candidate.map fun x => (x.1, x.2 + 1)
    let sent : State := { s with out := { down := some (if frameGood f then f else poisoned f), up := none, commands := [] } }
    (∀ k count : Byte, arrivalOf f = .align k count → 4 ≤ k.toNat → k.toNat ≤ 32 → held = some (k, k.toNat) →
      let entered : State := { sent with link := { s.link with
        state := .live, k := some k, position := some 0, lastCount := some count
        candidate := none, missRun := 0, errorRun := 0 } }
      (s.notice.lossOutstanding = false → exec (decodeFrame f) s = .next entered) ∧
      (s.notice.lossOutstanding = true →
        exec (decodeFrame f) s = .next
          (State.raiseFlag { entered with notice := { s.notice with lossOutstanding := false } } .linkRecovered))) ∧
    (∀ k count : Byte, arrivalOf f = .align k count → 4 ≤ k.toNat → k.toNat ≤ 32 → held ≠ some (k, k.toNat) →
      exec (decodeFrame f) s = .next { sent with link := { s.link with candidate := some (k, 0) } }) ∧
    ((∀ k count : Byte, arrivalOf f = .align k count → ¬(4 ≤ k.toNat ∧ k.toNat ≤ 32)) →
      exec (decodeFrame f) s = .next { sent with link := { s.link with candidate := held } })

/-- What a frame taken in LIVE does to the Link Receiver's position, runs, last count and counters, and when it ends in SEEK; a CONTROL frame that the part takes is left out, since its request may change them further (R136, R137, R141, R142; that the exercise error and unknown-kind counters do not rise for the frame that completes a link loss is the model's inference, log entry 8). -/
def Obligations.LiveFramesAreCounted : Prop :=
  ∀ (f : Frame) (s : State) (k : Byte) (p : Nat),
    wholeFrame f → s.link.state = .live → s.link.k = some k → s.link.position = some p →
    (frameGood f → f.kind = 0x03 → s.takes { addr := f.body.getD 0 0, tag := f.body.getD 2 0 } = false) →
    let position := (p + 1) % k.toNat
    let inPlace : Bool := position == 0 &&
      match arrivalOf f with
      | .align k' _ => k' == k && decide (4 ≤ k'.toNat) && decide (k'.toNat ≤ 32)
      | _ => false
    let miss : Bool :=
      if position = 0 then !inPlace
      else match arrivalOf f with
        | .align _ _ => true
        | _ => false
    let misses := if inPlace then 0 else if miss then s.link.missRun + 1 else s.link.missRun
    let errors := if frameGood f then 0 else s.link.errorRun + 1
    let lost : Bool := decide (2 ≤ misses) || decide (4 ≤ errors)
    Reaches (exec (decodeFrame f) s) fun t =>
      t.link.k = some k ∧
      t.link.lastCount = (match arrivalOf f with
        | .align _ count => if inPlace then some count else s.link.lastCount
        | _ => s.link.lastCount) ∧
      t.link.checkErrors = (if frameGood f then s.link.checkErrors else satAdd s.link.checkErrors 1) ∧
      t.link.unknownKinds =
        (if frameGood f ∧ 4 < f.kind.toNat ∧ lost = false then satAdd s.link.unknownKinds 1 else s.link.unknownKinds) ∧
      t.link.exerciseErrors =
        (if f.kind = 0x04 ∧ lost = false then
          satAdd s.link.exerciseErrors
            (((exerciseSequence (half f.body 0)).zip (f.body.drop 2)).countP fun x => x.1 != x.2)
        else s.link.exerciseErrors) ∧
      if lost then t.link.state = .seek ∧ t.link.position = none ∧ t.link.missRun = 0 ∧ t.link.errorRun = 0
      else t.link.state = .live ∧ t.link.position = some position ∧ t.link.missRun = misses ∧ t.link.errorRun = errors

/-- Exactly one frame is sent on for each frame received in SEEK or LIVE, chosen by the table of R143; none in DOWN, where the frame has no effect at all; a CONTROL frame whose slot completes a link loss is replaced or advanced as any other, and not executed (R143 with R144, R147). -/
def Obligations.ForwarderSendsOneFramePerSlot : Prop :=
  ∀ (f : Frame) (s : State), wholeFrame f →
    (s.link.state = .down → exec (decodeFrame f) s = .next s.begin) ∧
    (s.link.state ≠ .down →
      let target := ((f.body.getD 0 0).extractLsb' 0 4).toNat
      let p := f.body.getD 3 0
      Reaches (exec (decodeFrame f) s) fun t =>
        (s.link.state = .live → (s.link.count (arrivalOf f)).lossDue = true →
          t.chainPos = s.chainPos ∧ t.ret.responses = s.ret.responses) ∧
        t.out.down = some (
        if frameGood f = false then
          { kind := f.kind, body := f.body, check := ~~~ (crc16 (f.kind :: f.body)) }
        else if s.link.state = .live ∧ f.kind = 0x03 ∧ s.chainPos.map Fin.val = some target then mkFrame 0x00 []
        else if s.link.state = .live ∧ f.kind = 0x03 ∧ target = 15 ∧ f.body.getD 1 0 = 0x01 then
          mkFrame 0x03 (f.body.set 3 (if p.toNat < 8 then p + 1 else 8))
        else f))

/-- A frame that arrives bad is forwarded poisoned: the same kind and body with the complement of their CRC. It is bad at every later part, which sends the same bytes on; it is a check error in LIVE and is acted on nowhere but as an EXERCISE frame (R144). -/
def Obligations.BadFramesTravelPoisoned : Prop :=
  ∀ (f : Frame) (s : State), frameGood f = false →
    let p : Frame := { kind := f.kind, body := f.body, check := ~~~ (crc16 (f.kind :: f.body)) }
    frameGood p = false ∧ poisoned p = p ∧
    (s.link.state ≠ .down → Reaches (exec (.badFrame f) s) fun t => t.out.down = some p) ∧
    (s.link.state = .live →
      Reaches (exec (.badFrame f) s) fun t => t.link.checkErrors = satAdd s.link.checkErrors 1) ∧
    (s.actsOn .bad → f.kind ≠ 0x04 → exec (.badFrame f) s = .next (s.slotOf f .bad)) ∧
    (s.actsOn .bad → f.kind = 0x04 → exec (.badFrame f) s = .next ((s.slotOf f .bad).exercise (half f.body 0) (f.body.drop 2)))

/-- A slot other than an expanded CYCLE, for any frame: every site as `slotSite` says, one NOP to every port that is not parked, HOLD_GRANT and PARK to a port whose PENDING hold an expiry grants, and the rest of the part untouched but for the end of a closing pass's drain, which follows the removals and grants of a slot in which entries expire (R23, R44, R46, R48, R55, R96; that the test comes before the frame acts is the model's inference, log entry 7; that a port so granted gets no NOP in that slot is its choice, log entry 35). -/
def Obligations.SlotAgesExpiresAndSendsNops : Prop :=
  ∀ (s : State) (f : Frame) (a : Arrival),
    let u := s.slotOf f a
    let live := s.link.state == .live
    u.link = s.link.count a ∧ u.out.down = some (s.outgoing f a) ∧ u.out.up = none ∧
    u.chainPos = s.chainPos ∧ u.cause = s.cause ∧ u.revision = s.revision ∧ u.tables = s.tables ∧
    u.expander = s.expander ∧ u.cal = s.cal ∧ u.draws = s.draws ∧ u.pending = s.pending ∧
    u.pass.number = s.pass.number ∧ u.notice.mask = s.notice.mask ∧
    u.notice.lossOutstanding = s.notice.lossOutstanding ∧
    { u.ret with reports := [] } = { s.ret with reports := [] } ∧
    (∀ i : SiteNo, u.site i = slotSite live ((s.trim i).latency + 8) (s.site i)) ∧
    (∀ i : SiteNo,
      let granted := (s.site i).hold = .pending ∧ (u.site i).hold = .granted
      u.laneCommands i =
        if granted then [.holdGrant, .park] else if portParked live (u.site i) then [] else [.nop]) ∧
    (∃ grants : List (SiteNo × SiteCommand), (∀ x ∈ grants, x.2 = .holdGrant ∨ x.2 = .park) ∧
      u.out.commands = grants ++
        (allSites.filter fun i => !portParked live (u.site i)).map fun i => (i, SiteCommand.nop)) ∧
    (let expires (i : SiteNo) : Bool := (ageQueue (s.site i).queue).head?.any (·.past ((s.trim i).latency + 8))
     ((∃ i : SiteNo, expires i = true) → Reported (beforeReport s u).settleDrain u) ∧
     (s.draining = false ∨ (∀ i : SiteNo, expires i = false) →
       u.pass = s.pass ∧ u.ret = s.ret ∧ u.notice = s.notice))

/-- The good frames of kinds IDLE, ALIGN, EXERCISE and unknown, acted on in LIVE: each its slot, with the exercise error counter or the unknown-kind counter raised besides. The exercise sequence is 27 bytes, bit by bit the outputs of the register of x^16 + x^14 + x^13 + x^11 + 1, of which the first two bytes reproduce its starting value, high byte first; a seed of 0 loads 1. A counter raised by an amount stays at its maximum (section 7.4, 00_scope section 5.2). -/
def Obligations.GoodFramesInLive : Prop :=
  (∀ s : State,
     (∀ body : List Byte, s.actsOn .idle → exec (.idleFrame body) s = .next (s.slotOf (mkFrame 0x00 body) .idle)) ∧
     (∀ (k count : Byte) (rest : List Byte), s.actsOn (.align k count) →
       exec (.alignFrame k count rest) s = .next (s.slotOf (mkFrame 0x01 (k :: count :: rest)) (.align k count))) ∧
     (∀ (seed : Half) (sequence : List Byte), sequence.length = 27 → s.actsOn .exercise →
       let u := s.slotOf (mkFrame 0x04 (be16 seed ++ sequence)) .exercise
       exec (.exerciseFrame seed sequence) s = .next { u with link := { u.link with
         exerciseErrors := satAdd s.link.exerciseErrors
           (((exerciseSequence seed).zip sequence).countP fun x => x.1 != x.2) } }) ∧
     (∀ (kind : Byte) (body : List Byte), s.actsOn .unknown →
       let u := s.slotOf (mkFrame kind body) .unknown
       exec (.unknownKindFrame kind body) s = .next { u with link := { u.link with
         unknownKinds := satAdd s.link.unknownKinds 1 } })) ∧
  (∀ seed : Half, (exerciseSequence seed).length = 27 ∧
     (exerciseSequence seed).take 2 = be16 (if seed = 0 then 1 else seed) ∧
     ∃ register : Nat → Half,
       register 0 = (if seed = 0 then 1 else seed) ∧
       (∀ n < 216, ∀ j < 16, (register (n + 1)).getLsbD j =
         if j = 0 then
           Bool.xor (Bool.xor ((register n).getLsbD 15) ((register n).getLsbD 13))
             (Bool.xor ((register n).getLsbD 12) ((register n).getLsbD 10))
         else (register n).getLsbD (j - 1)) ∧
       ∀ k < 27, ∀ j < 8, ((exerciseSequence seed).getD k 0).getLsbD (7 - j) = (register (8 * k + j)).getLsbD 15) ∧
  (∀ (c : Half) (n : Nat), (satAdd c n).toNat = min 65535 (c.toNat + n)) ∧
  (∀ (c : Long) (n : Nat), (satAdd c n).toNat = min 4294967295 (c.toNat + n))

/-- The check of a frame, bit by bit: the register starts at 0xFFFF, takes the bytes in order and each byte from its most significant bit, and shifts toward bit 15 with the polynomial combined in where the bit that leaves differs from the data bit. The check so computed over bytes 0 to 29 stands in bytes 30 and 31, high byte first, complemented in a poisoned frame; a field of several bytes is sent high byte first; a frame is good exactly when the computation over all of its 32 bytes ends in 0; the test string gives 0x29B1 (R193). -/
def Obligations.CheckOfAFrame : Prop :=
  (∀ f : Frame,
    (frameGood f = true ↔ f.check = crc16 (f.kind :: f.body)) ∧
    (frameGood f = true ↔ crc16 (frameBytes f) = 0) ∧
    (poisoned f).check = ~~~ (crc16 (f.kind :: f.body)) ∧
    (f.body.length = 29 →
      (frameBytes f).length = 32 ∧ (frameBytes f).take 30 = f.kind :: f.body ∧
      ((frameBytes f).getD 30 0).toNat = f.check.toNat / 256 ∧ ((frameBytes f).getD 31 0).toNat = f.check.toNat % 256)) ∧
  (∀ x : Half, (be16 x).map BitVec.toNat = [x.toNat / 256, x.toNat % 256]) ∧
  (∀ x : Long, (be32 x).map BitVec.toNat =
    [x.toNat / 16777216, x.toNat / 65536 % 256, x.toNat / 256 % 256, x.toNat % 256]) ∧
  (∀ (bytes : List Byte) (b : Byte), crc16 (bytes ++ [b]) = crcByte (crc16 bytes) b) ∧
  (∀ (r : Half) (b : Byte), ∃ register : Nat → Half,
    register 0 = r ∧ register 8 = crcByte r b ∧
    ∀ n < 8, ∀ j < 16,
      let combined := Bool.xor ((register n).getLsbD 15) (b.getLsbD (7 - n))
      (register (n + 1)).getLsbD j =
        Bool.xor (decide (0 < j) && (register n).getLsbD (j - 1))
          (combined && (decide (j = 0) || decide (j = 5) || decide (j = 12)))) ∧
  crc16 [] = 0xFFFF ∧
  crc16 [0x31, 0x32, 0x33, 0x34, 0x35, 0x36, 0x37, 0x38, 0x39] = 0x29B1

/-- The physical address, the topology index and the physical data of a frame, bit by bit from the tables (sections 1.5 and 1.6, with the bit sources of section 1.1). The strobe code: the strobe base plus the trim the eye selector names, limited to 0 and 1023, and whether it had to be limited (section 1.7). -/
def Obligations.AddressDataAndStrobeTranslation : Prop :=
  (∀ (s : State) (address : Long) (data : Half),
     let source (k : Nat) (h : k < 31) : Bool := (s.tables.scramble.get ⟨k, h⟩).bit address
     (∀ k : Fin 16, (s.rowOf address).getLsbD k.val = source k.val (by omega)) ∧
     (∀ k : Fin 12, (s.colOf address).getLsbD k.val = source (16 + k.val) (by omega)) ∧
     (∀ k : Fin 3, (s.regionOf address).val.testBit k.val = source (28 + k.val) (by omega)) ∧
     (∀ (row : Half) (col : Col) (j : Fin 8),
       (s.topologyIndex row col).testBit j.val = (s.tables.selector.get j).bit row col) ∧
     (∃ h : s.topologyIndex (s.rowOf address) (s.colOf address) < 256,
       s.physicalData address data = data ^^^ s.tables.topology.get ⟨_, h⟩) ∧
     (∀ (n : Fin 32) (invert : Bool),
       ({ source := .logical n, invert := invert } : ScrambleEntry).bit address = Bool.xor invert (address.getLsbD n.val) ∧
       ({ source := .const0, invert := invert } : ScrambleEntry).bit address = invert ∧
       ({ source := .const1, invert := invert } : ScrambleEntry).bit address = !invert)) ∧
  (∀ (t : TimingSet) (trim : Trim),
     let sum : Int := (t.base.toNat : Int) + (if t.eye = .early then trim.early.toInt else trim.late.toInt)
     (sum < 0 → (strobeCode t trim).toNat = 0 ∧ strobeLimited t trim = true) ∧
     (1023 < sum → (strobeCode t trim).toNat = 1023 ∧ strobeLimited t trim = true) ∧
     (0 ≤ sum → sum ≤ 1023 → ((strobeCode t trim).toNat : Int) = sum ∧ strobeLimited t trim = false))

/-- The cycle numbering and the gap counter after an expanded CYCLE frame, whatever expires in its slot (sections 1.3 and 1.4). Its slot is its expansion and its expiry tests, taken at each site in one of the two orders, and with the end of a drain before or after what follows it at a site; which is a free draw, and only where the order shows (section 1.8, R22, log entry 3). -/
def Obligations.CyclesAreNumberedAndExpiryTakesEitherOrder : Prop :=
  (∀ (c : Cycle) (s : State), s.actsOn .cycle → Reaches (exec (.cycleFrame c) s) fun t =>
     t.expander.last = c.number ∧ t.expander.start = false ∧
     t.expander.upper.toNat =
       (if s.expander.start = false ∧ c.number.toNat < s.expander.last.toNat then min 65535 (s.expander.upper.toNat + 1)
       else s.expander.upper.toNat) ∧
     t.expander.gaps.toNat =
       (if s.expander.start = false ∧ c.number.toNat ≠ (s.expander.last.toNat + 1) % 65536 then
         min 65535 (s.expander.gaps.toNat + 1)
       else s.expander.gaps.toNat) ∧
     t.extended.toNat = t.expander.upper.toNat * 65536 + t.expander.last.toNat) ∧
  (∀ (e : Expander) (n : Half), e.gapAt n = true ↔ e.start = false ∧ n.toNat ≠ (e.last.toNat + 1) % 65536) ∧
  (∀ (c : Cycle) (s : State), s.actsOn .cycle →
     let u : State := State.ageAll { s.begin.forward (cycleFrameOf c) .cycle with link := s.link.count .cycle }
     let issued (p : SiteNo → Bool) (v : State) : State := forSites (fun i w => if p i then w.issue c i else w) v
     let expired (v : State) : State := forSites (fun i w => w.expireSite i) v
     let inOrder (before between : SiteNo → Bool) : State :=
       issued (fun i => !before i && !between i)
         (issued (fun i => !before i && between i) (expired (issued before (u.trackCycle c.number)))).settleDrain
     Reaches (exec (.cycleFrame c) s) fun t =>
       (t.draws = s.draws → t = issued (fun _ => true) (u.expireAll.trackCycle c.number)) ∧
       (t.draws ≠ s.draws → ∃ before between : SiteNo → Bool, { t with draws := s.draws } = inOrder before between) ∧
       ((∀ i : SiteNo, ∀ e ∈ (u.site i).queue, e.past ((s.trim i).latency + 8) = false) →
         t = issued (fun _ => true) (u.trackCycle c.number)))

/-- An expanded CYCLE frame in whose slot no entry expires: every site as `portAfter` says, and nothing else of the part but the numbering, the link's counts and the outputs changes. A READ is accepted into a queue of fewer than 64 entries that is empty or whose newest tag it lies after, measured from the oldest tag; the timing set index is bits 0 to 3 of its byte (sections 1.3 to 1.8, R21, R194; the region in the commands is the model's choice, log entry 29). -/
def Obligations.CycleOutcomeAtEachPort : Prop :=
  ∀ (c : Cycle) (s : State), s.actsOn .cycle →
    (∀ i : SiteNo, ∀ e ∈ ageQueue (s.site i).queue, e.past ((s.trim i).latency + 8) = false) →
    Reaches (exec (.cycleFrame c) s) fun t =>
      (∀ i : SiteNo, t.site i = portAfter s c i) ∧
      t.out.down = some (cycleFrameOf c) ∧
      t.out.commands = (allSites.filter fun i => !portParked true (s.site i)).map (fun i => (i, (t.site i).command)) ∧
      t.link = s.link.count .cycle ∧ t.expander = s.expander.track c.number ∧ t.chainPos = s.chainPos ∧
      t.cause = s.cause ∧ t.revision = s.revision ∧ t.tables = s.tables ∧ t.cal = s.cal ∧ t.pass = s.pass ∧
      t.ret = s.ret ∧ t.notice = s.notice ∧ t.draws = s.draws ∧ t.pending = s.pending ∧
      (setIndexOf c.setByte).val = c.setByte.toNat % 16 ∧
      ∀ (queue : List Entry) (n : Half), acceptsRead queue n = true ↔
        queue.length < 64 ∧ ∀ oldest newest : Entry, queue.head? = some oldest → queue.getLast? = some newest →
          1 ≤ (n - oldest.tag).toNat ∧ (n - oldest.tag).toNat ≤ 32767 ∧
          (newest.tag - oldest.tag).toNat < (n - oldest.tag).toNat

/-- HOLD_REQUEST and HOLD_RELEASE in every hold status, condition and queue: the whole next state (sections 2.1, 2.3 and 2.4). IDLE words have no effect; a word that fails its check raises the site's lane word error count and, but for its comparison by a run in progress on the lane (section 6.7, R127), has no other effect (section 2.2). -/
def Obligations.HoldIdleAndBadWords : Prop :=
  (∀ (i : SiteNo) (s : State),
     let x := s.site i
     exec (.holdReleaseWord i) s = .next (s.begin.setSite i { x with hold := .free }) ∧
     (x.hold ≠ .free → exec (.holdRequestWord i) s = .next s.begin) ∧
     (x.hold = .free → x.condition = .enabled → x.queue ≠ [] →
       exec (.holdRequestWord i) s = .next (s.begin.setSite i { x with hold := .pending })) ∧
     (x.hold = .free → x.condition ≠ .enabled ∨ x.queue = [] →
       exec (.holdRequestWord i) s = .next { s.begin.setSite i { x with hold := .granted, command := .park } with
         out := { down := none, up := none, commands := [(i, .holdGrant), (i, .park)] } })) ∧
  (∀ (i : SiteNo) (s : State),
     exec (.idleWord i) s = .next s.begin ∧
     ∀ word : WordPair, Reaches (exec (.laneWordError i word) s) fun t =>
       (t.site i).laneErrors.toNat = min 65535 ((s.site i).laneErrors.toNat + 1) ∧
       (s.stage ≠ .trainingScan i → s.stage ≠ .shadow i → s.stage ≠ .offlineScan i → s.stage ≠ .soak i →
         t = s.begin.setSite i { s.site i with laneErrors := (t.site i).laneErrors }))

/-- A STATUS word without HEAD_FAULT, or at a site whose condition it does not change: the head status taken, the changed mark and HEAD_CHANGE set when the copy differs from the snapshot. A STATUS word with HEAD_FAULT: an ENABLED site is dropped with the effects of a departure from ENABLED, a site dropped as UNREPAIRABLE has its cause changed; SITE_DROPPED is set, after HEAD_CHANGE, a drain whose last counted entries the drop discards ends, a run on its lane ends, and no other site changes (sections 2.3 and 2.5, R96, R98, R126; orders inside the step: log entries 3, 9, 12, 13 and 34). -/
def Obligations.StatusWordsAndHeadFaults : Prop :=
  (∀ (i : SiteNo) (bits : Byte) (s : State),
     let x := s.site i
     bits.getLsbD 2 = false ∨ x.condition = .disabled ∨ x.condition = .dropped .headFault →
     (bits = x.snapshot → exec (.statusWord i bits) s = .next (s.begin.setSite i { x with current := bits })) ∧
     (bits ≠ x.snapshot →
       exec (.statusWord i bits) s =
         .next ((s.begin.setSite i { x with current := bits, changed := true }).raiseFlag .headChange))) ∧
  (∀ (i : SiteNo) (bits : Byte) (s : State), bits.getLsbD 2 = true →
     let x := s.site i
     x.condition = .enabled ∨ x.condition = .dropped .unrepairable →
     Reaches (exec (.statusWord i bits) s) fun t =>
       let running := s.cal.target = some i ∧ (s.cal.spare = .training ∨ s.cal.spare = .standingIn)
       t.site i = { x with
         condition := .dropped .headFault
         current := bits
         changed := x.changed || bits != x.snapshot
         queue := if x.condition = .enabled then [] else x.queue
         hold := if x.condition = .enabled ∧ x.hold = .pending then .granted else x.hold
         command := if x.condition = .enabled then .park else x.command
         lane := if x.condition = .enabled ∧ running then .online else x.lane } ∧
       (∀ j : SiteNo, j ≠ i → t.site j = s.site j ∧ t.laneCommands j = []) ∧
       bitOf t.notice.flags 2 = true ∧ (bits ≠ x.snapshot → bitOf t.notice.flags 1 = true) ∧
       t.laneCommands i = (if x.condition = .enabled then parkingCommands (decide (x.hold = .pending)) x else []) ∧
       t.link = s.link ∧ t.chainPos = s.chainPos ∧ t.cause = s.cause ∧ t.expander = s.expander ∧
       { t.ret with reports := [] } = { s.ret with reports := [] } ∧ t.notice.mask = s.notice.mask ∧
       Departs (fun j => j = i ∧ x.condition = .enabled) s t ∧
       (s.draining = false → t.pass = s.pass) ∧
       (let v := beforeReport s t
        DropsReported (x.condition = .enabled ∧ countedIn x.queue ≠ 0)
          (if bits = x.snapshot then v else v.raiseFlag .headChange) t))

/-- SET SITES at every site: the drop setting copied, the condition moved by the enable bit, with what a departure from ENABLED does besides, on the lane and to a run on it, COVERAGE_GAP for a disable in OPEN or CLOSING, SITE_DROPPED for a site that comes up faulting and for no disabled one, the end of a drain whose last counted entries a disable discards, and the conditions reported after the request (sections 2.3 and 10.6, R96, R98, R126; log entry 3 for SITE_DROPPED and the end of a drain; the orders inside the request and of the grant on a lane are the model's inference, log entries 9 and 10; that the lane of a disabled site carries its slot's NOP before the PARK is the model's choice, log entry 35; log entries 12, 13 and 34 for the end of a run). -/
def Obligations.SetSitesMovesConditions : Prop :=
  ∀ (s : State) (c : Ctl) (enable drop : Half) (rest : List Byte), s.executes c 0x20 →
    let u := s.controlSlot c 0x20 (be16 enable ++ be16 drop ++ rest)
    let running (i : SiteNo) := u.cal.target = some i ∧ (u.cal.spare = .training ∨ u.cal.spare = .standingIn)
    let inPass := u.pass.state = .opened ∨ u.pass.state = .closing
    Reaches (exec (.setSites c enable drop rest) s) fun t =>
      (∀ i : SiteNo,
        let x := u.site i
        let on := enable.getLsbD i.val
        let left := on = false ∧ x.condition = .enabled
        t.site i = { x with
          dropOn := drop.getLsbD i.val
          condition :=
            if on then (if x.condition = .disabled then (if x.current.getLsbD 2 then .dropped .headFault else .enabled)
              else x.condition)
            else .disabled
          flags := { x.flags with
            coverageGap := x.flags.coverageGap || (decide (on = false ∧ x.condition ≠ .disabled ∧ inPass)) }
          queue := if left then [] else x.queue
          hold := if left ∧ x.hold = .pending then .granted else x.hold
          command := if left then .park else x.command
          lane := if left ∧ running i then .online else x.lane }) ∧
      ((∃ i : SiteNo, enable.getLsbD i.val = true ∧ (u.site i).condition = .disabled ∧ (u.site i).current.getLsbD 2 = true) →
        bitOf t.notice.flags 2 = true) ∧
      (∃ data : List Byte, t.ret.responses = u.ret.responses ++ [u.responseBytes c 0x20 0 data] ∧ data.length = 4 ∧
        ∀ i : SiteNo, (data.getD (i.val / 4) 0).toNat / 4 ^ (i.val % 4) % 4 = (t.site i).condition.code) ∧
      t.link = u.link ∧ t.chainPos = u.chainPos ∧ t.cause = u.cause ∧ t.expander = u.expander ∧
      { t.ret with reports := [], responses := [] } = { u.ret with reports := [], responses := [] } ∧
      (∀ i : SiteNo,
        let left := enable.getLsbD i.val = false ∧ (u.site i).condition = .enabled
        t.laneCommands i = u.laneCommands i ++
          if left then parkingCommands (decide ((u.site i).hold = .pending)) (u.site i) else []) ∧
      Departs (fun i => enable.getLsbD i.val = false ∧ (u.site i).condition = .enabled) u t ∧
      (u.draining = false → t.pass = u.pass) ∧
      (let faulting := ∃ i : SiteNo,
         enable.getLsbD i.val = true ∧ (u.site i).condition = .disabled ∧ (u.site i).current.getLsbD 2 = true
       let drains := ∃ i : SiteNo,
         enable.getLsbD i.val = false ∧ (u.site i).condition = .enabled ∧ countedIn (u.site i).queue ≠ 0
       let v := beforeReport u t
       (faulting → DropsReported drains v t) ∧ (¬faulting → drains → Reported v.settleDrain t) ∧
       (¬faulting → u.draining = false ∨ ¬drains → t.notice = u.notice ∧ t.pass = u.pass ∧ t.ret.reports = u.ret.reports))

/-- READ HEAD STATUS: refused ranges, the report of at most seven sites, and change detection re-armed for exactly the sites reported (section 2.5, section 10.6). -/
def Obligations.ReadHeadStatusReportsAndRearms : Prop :=
  ∀ (s : State) (c : Ctl) (first count : Byte) (rest : List Byte), s.executes c 0x21 →
    let u := s.controlSlot c 0x21 (first :: count :: rest)
    (15 < first.toNat ∨ 16 < first.toNat + count.toNat →
      exec (.readHeadStatus c first count rest) s = .next (u.responded (u.responseBytes c 0x21 3 []))) ∧
    (first.toNat ≤ 15 → first.toNat + count.toNat ≤ 16 →
      let n := min count.toNat 7
      Reaches (exec (.readHeadStatus c first count rest) s) fun t =>
        (∀ i : SiteNo, t.site i =
          if first.toNat ≤ i.val ∧ i.val < first.toNat + n then
            { u.site i with snapshot := (u.site i).current, changed := false }
          else u.site i) ∧
        (∃ data : List Byte, t = { u.responded (u.responseBytes c 0x21 0 data) with sites := t.sites } ∧
          data.length = 2 + 3 * n ∧ data.getD 0 0 = first ∧ (data.getD 1 0).toNat = n ∧
          ∀ i : SiteNo, first.toNat ≤ i.val → i.val < first.toNat + n →
            let at' := 2 + 3 * (i.val - first.toNat)
            data.getD at' 0 = (u.site i).current ∧ data.getD (at' + 1) 0 = (u.site i).snapshot ∧
            data.getD (at' + 2) 0 = (if (u.site i).changed then 1 else 0)))

/-- A READ_DATA word at an empty queue, or with a tag behind the head, is a stray and touches nothing else. A word past entries that has none of its own: the entries older than its tag are lost, the newer stay, and the word is a stray; where those entries were the last counted ones of a drain, the stray is counted before the drain ends or after it (section 3.2, R100; which is a free draw, log entry 3). -/
def Obligations.UnmatchedWordsAreStrays : Prop :=
  (∀ (i : SiteNo) (tag data : Half) (s : State),
     (∀ e : Entry, (s.site i).queue.head? = some e → 32768 ≤ (tag - e.tag).toNat) →
     Reaches (exec (.readDataWord i tag data) s) fun t =>
       (t.site i).counts.strays.toNat = min 65535 ((s.site i).counts.strays.toNat + 1) ∧
       t = s.begin.setSite i
         { s.site i with counts := { (s.site i).counts with strays := (t.site i).counts.strays } }) ∧
  (∀ (i : SiteNo) (tag data : Half) (s : State) (head : Entry) (older newer : List Entry),
     (s.site i).queue = older ++ newer → (older ++ newer).head? = some head →
     1 ≤ (tag - head.tag).toNat → (tag - head.tag).toNat ≤ 32767 →
     (∀ e ∈ older, (e.tag - head.tag).toNat < (tag - head.tag).toNat) →
     (∀ e ∈ newer, (tag - head.tag).toNat < (e.tag - head.tag).toNat) →
     s.draining = false →
     Reaches (exec (.readDataWord i tag data) s) fun t =>
       let x := s.site i
       let granted := x.hold = .pending ∧ newer = []
       t.site i = { x with
         queue := newer
         counts := { x.counts with
           lost := satAdd x.counts.lost (countedIn older)
           strays := satAdd x.counts.strays 1 }
         flags := { x.flags with coverageGap := x.flags.coverageGap || 0 < countedIn older }
         hold := if granted then .granted else x.hold
         command := if granted then .park else x.command } ∧
       t = { s.begin.setSite i (t.site i) with
         out := { down := none, up := none
                  commands := if granted then [(i, .holdGrant), (i, .park)] else [] } }) ∧
  (∀ (i : SiteNo) (tag data : Half) (s : State) (head : Entry) (older newer : List Entry),
     (s.site i).queue = older ++ newer → (older ++ newer).head? = some head →
     1 ≤ (tag - head.tag).toNat → (tag - head.tag).toNat ≤ 32767 →
     (∀ e ∈ older, (e.tag - head.tag).toNat < (tag - head.tag).toNat) →
     (∀ e ∈ newer, (tag - head.tag).toNat < (e.tag - head.tag).toNat) →
     let x := s.site i
     let popped : State := s.begin.setSite i { x with
       queue := newer
       counts := { x.counts with lost := satAdd x.counts.lost (countedIn older) }
       flags := { x.flags with coverageGap := x.flags.coverageGap || 0 < countedIn older } }
     let strayed (v : State) : State :=
       v.setSite i { v.site i with counts := { (v.site i).counts with strays := satAdd x.counts.strays 1 } }
     Reaches (exec (.readDataWord i tag data) s) fun t =>
       { t with draws := s.draws } = ((strayed popped).grantIfEmpty i).settleDrain ∨
       { t with draws := s.draws } = (strayed popped.settleDrain).grantIfEmpty i)

/-- A READ_DATA word with the tag of an entry: the older entries are lost, the entry is popped and compared. The fail bits, the counts, the history ring, the FAIL record, the counted fail and the drop it may cause, and a PENDING hold granted when the queue is left empty. The FAIL record byte by byte. Where the older entries were the last counted ones of a drain and the entry is not counted, its FAIL record is offered before the drain ends or after it, which is a free draw. A counted entry leaves no order open: its whole compare, with the FAIL record and a drop's SITE_DROPPED, comes before the report that may end the drain (sections 3.2, 3.4 and 10.3, with R32, R69, R96, R100, R126 and R161; orders inside the step: log entries 3, 9, 12, 13, 31 and 34; that the ring write count rises with every fail is its choice, log entry 33). -/
def Obligations.MatchedWordsAreCompared : Prop :=
  ∀ (i : SiteNo) (data : Half) (s : State) (head e : Entry) (older newer : List Entry),
    (s.site i).queue = older ++ e :: newer → (older ++ [e]).head? = some head →
    (e.tag - head.tag).toNat ≤ 32767 →
    (∀ o ∈ older, (o.tag - head.tag).toNat < (e.tag - head.tag).toNat) →
    Reaches (exec (.readDataWord i e.tag data) s) fun t =>
      let x := s.site i
      let bits := (data ^^^ e.expected) &&& e.mask
      let entry : RingEntry :=
        { ext := e.ext, region := e.region, row := e.row, col := e.col, failBits := bits, mark := e.mark }
      let records := if bits ≠ 0 ∧ e.counted then
          x.records.set e.region ((x.records.get e.region).take (e.row, e.col)) else x.records
      let drops := x.verdict ≠ .unrepairable ∧ Site.verdict { x with records := records } = .unrepairable ∧
        x.condition = .enabled ∧ x.dropOn = true
      let left := if drops then [] else newer
      let granted := x.hold = .pending ∧ left = []
      let running := s.cal.target = some i ∧ (s.cal.spare = .training ∨ s.cal.spare = .standingIn)
      t.site i = { x with
        condition := if drops then .dropped .unrepairable else x.condition
        queue := left
        hold := if granted then .granted else x.hold
        command := if granted ∨ drops then .park else x.command
        counts := { x.counts with
          compares := if e.counted then satAdd x.counts.compares 1 else x.counts.compares
          fails := if bits ≠ 0 ∧ e.counted then satAdd x.counts.fails 1 else x.counts.fails
          lost := satAdd x.counts.lost (countedIn older)
          ringWrites := if bits ≠ 0 then satAdd x.counts.ringWrites 1 else x.counts.ringWrites }
        flags := { x.flags with coverageGap := x.flags.coverageGap || 0 < countedIn older }
        ring := if bits ≠ 0 then (x.ring ++ [entry]).drop (x.ring.length + 1 - 8) else x.ring
        records := records
        lane := if drops ∧ running then .online else x.lane } ∧
      (∀ j : SiteNo, j ≠ i → t.site j = s.site j) ∧
      (drops → bitOf t.notice.flags 2 = true ∧
        ∃ v : State, t = (v.raiseFlag .siteDropped).settleDrain ∧ v.pass = s.pass ∧
          (v.ret.reports = s.ret.reports ∨ v.ret.reports = s.ret.reports ++ [s.failFrame i e data])) ∧
      (e.counted = true → t.draws = s.draws) ∧
      t.link = s.link ∧ t.chainPos = s.chainPos ∧ t.cause = s.cause ∧ t.expander = s.expander ∧
      t.ret.responses = s.ret.responses ∧ t.ret.fifo = s.ret.fifo ∧
      (∀ j : SiteNo, j ≠ i → t.laneCommands j = []) ∧
      t.laneCommands i = (if granted ∨ drops then parkingCommands (decide granted) x else []) ∧
      Departs (fun j => j = i ∧ drops) s t ∧
      (let popped : State := s.begin.setSite i { x with
         queue := newer
         counts := { x.counts with lost := satAdd x.counts.lost (countedIn older) }
         flags := { x.flags with coverageGap := x.flags.coverageGap || 0 < countedIn older } }
       let compared (v : State) : State := v.compareEntry i e data
       (e.counted = true → t = ((compared popped).grantIfEmpty i).settleDrain) ∧
       (e.counted = false →
         { t with draws := s.draws } = ((compared popped).grantIfEmpty i).settleDrain ∨
         { t with draws := s.draws } = (compared popped.settleDrain).grantIfEmpty i)) ∧
      s.failFrame i e data = mkFrame 0x83 ([s.source, byteOf i.val, s.pass.number] ++ be16 e.tag ++ be32 e.ext ++
        [byteOf (e.region.val + (if e.mark then 64 else 0) + if e.counted then 128 else 0)] ++ be16 e.row ++
        be16 (e.col.setWidth 16) ++ be16 e.expected ++ be16 data ++ be16 bits) ∧
      (¬drops → s.draining = false →
        t.pass = s.pass ∧
        (bits = 0 ∨ s.ret.rawLog.getLsbD i.val = false → t.ret = s.ret ∧ t.notice = s.notice) ∧
        (bits ≠ 0 → s.ret.rawLog.getLsbD i.val = true → s.reportRoom = true → s.summariesWaiting = false →
          t.ret = { s.ret with reports := s.ret.reports ++ [s.failFrame i e data] } ∧ t.notice = s.notice) ∧
        (bits ≠ 0 → s.ret.rawLog.getLsbD i.val = true → s.reportRoom = false ∨ s.summariesWaiting = true →
          t.ret = { s.ret with drops := satAdd s.ret.drops 1 } ∧ bitOf t.notice.flags 4 = true))

/-- ENTRY_EXPIRY at a site: the run of entries at the head whose age exceeds the return latency plus 8 is lost, and a PENDING hold is granted when the queue is left empty; then the drain of a closing pass ends where no counted entry is left; with no such entry nothing happens (sections 3.2, 3.3, 3.5, 5.4 and 5.5; when the row of its own tests is the model's choice, log entries 21 and 26). -/
def Obligations.ExpiredEntriesAreLost : Prop :=
  ∀ (i : SiteNo) (s : State) (gone left : List Entry),
    (s.site i).queue = gone ++ left → (∀ e ∈ gone, (s.trim i).latency + 8 < e.age.toNat) →
    (∀ e : Entry, left.head? = some e → e.age.toNat ≤ (s.trim i).latency + 8) →
    (gone = [] → exec (.entryExpiry i) s = .next s.begin) ∧
    (gone ≠ [] → Reaches (exec (.entryExpiry i) s) fun t =>
      let x := s.site i
      let granted := x.hold = .pending ∧ left = []
      t.site i = { x with
        queue := left
        counts := { x.counts with lost := satAdd x.counts.lost (countedIn gone) }
        flags := { x.flags with coverageGap := x.flags.coverageGap || 0 < countedIn gone }
        hold := if granted then .granted else x.hold
        command := if granted then .park else x.command } ∧
      (∀ j : SiteNo, j ≠ i → t.site j = s.site j) ∧
      (∀ j : SiteNo, t.laneCommands j = if j = i ∧ granted then [.holdGrant, .park] else []) ∧
      (let removed : State := { s.begin.setSite i (t.site i) with
         out := { down := none, up := none
                  commands := if granted then [(i, .holdGrant), (i, .park)] else [] } }
       t = removed.settleDrain ∧ (s.draining = false → t = removed)))

/-- The rules every analysis record keeps (R66, R67): they hold of a reset record, all of whose budgets are 0 after either reset, and of a loaded one, the taking of a counted fail keeps them, a committed repair moves one spare into its must list, and a fail that proves the region unrepairable leaves budgets and lists as they were. -/
def Obligations.AnalysisRecordsStaySound : Prop :=
  (let zero (t : State) : Prop := ∀ (i : SiteNo) (g : RegionNo),
     let r := (t.site i).records.get g
     r.rr = 0 ∧ r.loadedRows = 0 ∧ r.rc = 0 ∧ r.loadedCols = 0
   (∀ s : State, Reaches (exec .powerOnReset s) zero) ∧
   (∀ s : State, s.link.crst = false → Reaches (exec .crstAsserted s) zero) ∧
   (∀ (s : State) (c : Ctl) (params : List Byte), s.executes c 0x03 → Reaches (exec (.resetPart c params) s) zero)) ∧
  ({} : Record).sound = true ∧
  (∀ b : Budget, b.sr ≤ 4 → b.sc ≤ 4 →
    let r := Record.load b
    r.sound = true ∧ r.rr = b.sr ∧ r.loadedRows = b.sr ∧ r.rc = b.sc ∧ r.loadedCols = b.sc ∧
    r.mustRows = [] ∧ r.mustCols = []) ∧
  (∀ (r : Record) (p : Half × Col), r.sound = true → (r.take p).sound = true) ∧
  (∀ (r t : Record) (x : Half), r.commitRow x = some t →
    t.rr + 1 = r.rr ∧ t.mustRows = r.mustRows ++ [x] ∧ t.rc = r.rc ∧ t.mustCols = r.mustCols) ∧
  (∀ (r t : Record) (y : Col), r.commitCol y = some t →
    t.rc + 1 = r.rc ∧ t.mustCols = r.mustCols ++ [y] ∧ t.rr = r.rr ∧ t.mustRows = r.mustRows) ∧
  (∀ (r : Record) (p : Half × Col), (r.take p).state = .unrepairable →
    { r.take p with state := r.state, cause := r.cause } = r) ∧
  (∀ r : Record, r.sound = true →
    r.rr + r.mustRows.length = r.loadedRows ∧ r.loadedRows ≤ 4 ∧
    r.rc + r.mustCols.length = r.loadedCols ∧ r.loadedCols ≤ 4 ∧
    r.mustRows.length ≤ 4 ∧ r.mustCols.length ≤ 4 ∧ (r.loadedRows = 0 → r.mustRows = []) ∧
    r.sparse.Nodup ∧ (∀ p ∈ r.sparse, p.1 ∉ r.mustRows ∧ p.2 ∉ r.mustCols) ∧
    r.sparse.length ≤ 2 * r.rr * r.rc ∧ r.sparse.length ≤ 32 ∧
    ∀ p ∈ r.sparse, r.rowCount p.1 ≤ r.rc ∧ r.colCount p.2 ≤ r.rr)

/-- The analysis is right: a region found UNREPAIRABLE cannot be repaired with its spares, and every must repair is in every repair that covers the fails (chapter 4, introduction and section 4.9). -/
def Obligations.UnrepairableIsProvedAndMustRepairsAreForced : Prop :=
  ∀ (b : Budget) (fails : List (Half × Col)) (rows : Finset Half) (cols : Finset Col),
    rows.card ≤ b.sr → cols.card ≤ b.sc → Covers rows cols fails →
    let r := Record.after b fails
    r.state ≠ .unrepairable ∧ (∀ x ∈ r.mustRows, x ∈ rows) ∧ (∀ y ∈ r.mustCols, y ∈ cols)

/-- While a region is not UNREPAIRABLE, every counted fail taken is covered by a must repair or listed, and nothing else is listed; so the must repairs with any choice that covers the sparse list cover every fail (sections 4.2 and 4.9). -/
def Obligations.RecordsCoverOrListEveryFail : Prop :=
  ∀ (b : Budget) (fails : List (Half × Col)),
    let r := Record.after b fails
    r.state ≠ .unrepairable →
      (∀ p ∈ fails, p.1 ∈ r.mustRows ∨ p.2 ∈ r.mustCols ∨ p ∈ r.sparse) ∧
      (∀ p ∈ r.sparse, p ∈ fails) ∧ (r.state = .clean ↔ fails = []) ∧
      ∀ (rows : Finset Half) (cols : Finset Col), Covers rows cols r.sparse →
        Covers (rows ∪ r.mustRows.toFinset) (cols ∪ r.mustCols.toFinset) fails

/-- The site verdict is the worst of the eight region states; no fail takes a region out of UNREPAIRABLE or changes its cause (sections 4.2 and 4.6). -/
def Obligations.VerdictIsTheWorstRegionState : Prop :=
  (∀ x : Site,
    (x.verdict = .unrepairable ↔ ∃ g : RegionNo, (x.records.get g).state = .unrepairable) ∧
    (x.verdict = .clean ↔ ∀ g : RegionNo, (x.records.get g).state = .clean)) ∧
  (∀ (r : Record) (p : Half × Col), r.state = .unrepairable → r.take p = r) ∧
  (∀ (x : Site) (g : RegionNo) (p : Half × Col), x.verdict = .unrepairable → (x.takeFail g p).verdict = .unrepairable)

/-- OPEN PASS: accepted in IDLE and CLOSED with all of its effects and no other, refused in OPEN and CLOSING with the pass reported (sections 5.2 and 10.6). -/
def Obligations.OpenPassAsOneStep : Prop :=
  ∀ (s : State) (c : Ctl) (number : Byte) (rest : List Byte), s.executes c 0x30 →
    let u := s.controlSlot c 0x30 (number :: rest)
    (u.pass.state = .idle ∨ u.pass.state = .closed →
      Reaches (exec (.openPass c number rest) s) fun t =>
        (∀ i : SiteNo,
          let x := u.site i
          t.site i = { x with
            condition := match x.condition with
              | .dropped _ => if x.current.getLsbD 2 then .dropped .headFault else .enabled
              | k => k
            laneErrors := 0
            counts := {}
            ring := []
            flags := { coverageGap := false, strobeClamped := false, tested := false, laneDegraded := x.lane == .degraded }
            records := (t.site i).records } ∧
          ∀ g : RegionNo, (t.site i).records.get g = Record.load (u.tables.region.get g)) ∧
        t = { u.responded (u.responseBytes c 0x30 0 [1, number]) with
          sites := t.sites
          expander := { u.expander with last := 0, upper := 0, start := true }
          pass := { state := .opened, number := number, summary := none }
          ret := { u.ret with drops := 0, responses := t.ret.responses } } ∧
        t.ret.responses = u.ret.responses ++ [u.responseBytes c 0x30 0 [1, number]]) ∧
    (u.pass.state = .opened →
      exec (.openPass c number rest) s = .next (u.responded (u.responseBytes c 0x30 1 [1, u.pass.number]))) ∧
    (u.pass.state = .closing →
      exec (.openPass c number rest) s = .next (u.responded (u.responseBytes c 0x30 2 [2, u.pass.number])))

/-- CLOSE PASS: the pass CLOSING, the outstanding count reported at acceptance, the drain awaited, or ended in the same step where nothing is outstanding; refused in the other states (section 5.4, section 10.6; that the count is taken after the expiry test of the request's own slot is the model's inference, log entry 7). -/
def Obligations.ClosePassStartsTheDrain : Prop :=
  ∀ (s : State) (c : Ctl) (params : List Byte), s.executes c 0x31 →
    let u := s.controlSlot c 0x31 params
    let closing : State := { u with pass := { u.pass with state := .closing } }
    let n := u.countedTotal
    let answered := closing.responded (u.responseBytes c 0x31 0 [2, u.pass.number, byteOf (n / 256), byteOf (n % 256)])
    (u.pass.state = .opened → n < 65536 → u.pass.summary = none →
      (n ≠ 0 → exec (.closePass c params) s = .next answered) ∧
      (n = 0 → exec (.closePass c params) s = .next
        (State.enqueueSummaries { answered with pass := { answered.pass with summary := some 0 } } 16))) ∧
    (u.pass.state = .closing →
      exec (.closePass c params) s = .next (u.responded (u.responseBytes c 0x31 2 [2, u.pass.number]))) ∧
    (u.pass.state = .idle →
      exec (.closePass c params) s = .next (u.responded (u.responseBytes c 0x31 1 [0, u.pass.number]))) ∧
    (u.pass.state = .closed →
      exec (.closePass c params) s = .next (u.responded (u.responseBytes c 0x31 1 [3, u.pass.number])))

/-- The end of a drain, which is what State.settleDrain does wherever a removal reports to Pass Control: as many summaries as there are free places enter at once, in site order; with all sixteen the pass is CLOSED and PASS_CLOSED set, else the rest wait. SUMMARY_ENQUEUE: the summary of the site at the summary position takes a free place and the position moves on; the summary of site 15 closes the pass and sets PASS_CLOSED. The SUMMARY record byte by byte (section 10.3). Where nothing is due neither command has an effect (section 5.5; that these rows act only where due is the model's choice, log entry 5, and the order at site 15's summary its inference, log entry 11). -/
def Obligations.DrainEndsInSummaries : Prop :=
  (∀ s : State,
     exec .drainComplete s = .next s.begin.settleDrain ∧
     (s.draining = false ∨ s.countedTotal ≠ 0 → exec .drainComplete s = .next s.begin) ∧
     (s.draining = true → s.countedTotal = 0 → s.ret.reports.length ≤ 32 →
       let n := min 16 (32 - s.ret.reports.length)
       Reaches (exec .drainComplete s) fun t =>
         t.ret.reports.take (s.ret.reports.length + n) = s.ret.reports ++ (allSites.take n).map s.summaryFrame ∧
         t.pass.number = s.pass.number ∧ t.sites = s.sites ∧ t.link = s.link ∧ t.cal = s.cal ∧ t.tables = s.tables ∧
         { t.ret with reports := [] } = { s.ret with reports := [] } ∧
         (n < 16 → t.pass.state = .closing ∧ t.pass.summary = some (Fin.ofNat 16 n) ∧ t.notice = s.notice ∧
           t.ret.reports.length = 32) ∧
         (n = 16 → t.pass.state = .closed ∧ t.pass.summary = none ∧ bitOf t.notice.flags 5 = true))) ∧
  (∀ s : State,
     (s.pass.summary = none ∨ s.reportRoom = false → exec .summaryEnqueue s = .next s.begin) ∧
     (∀ i : SiteNo, s.pass.summary = some i → s.reportRoom = true →
       (i ≠ 15 → exec .summaryEnqueue s = .next { s.begin with
         pass := { s.pass with summary := some (i + 1) }
         ret := { s.ret with reports := s.ret.reports ++ [s.summaryFrame i] } }) ∧
       (i = 15 → Reaches (exec .summaryEnqueue s) fun t =>
         t.pass = { s.pass with state := .closed, summary := none } ∧ bitOf t.notice.flags 5 = true ∧
         t.sites = s.sites ∧ t.link = s.link ∧ t.cal = s.cal ∧ t.tables = s.tables ∧
         { t.ret with reports := [] } = { s.ret with reports := [] } ∧
         t.ret.reports.take (s.ret.reports.length + 1) = s.ret.reports ++ [s.summaryFrame i]))) ∧
  (∀ (s : State) (i : SiteNo),
     let x := s.site i
     let code (state : RegionState) : Nat := match state with
       | .clean => 0
       | .repairable => 1
       | .unrepairable => 2
     let region (g : RegionNo) : Nat := code (x.records.get g).state
     s.summaryFrame i = mkFrame 0x84 (
       [s.source, byteOf i.val, s.pass.number, byteOf (if x.flags.tested then code x.verdict else 3),
        byteOf (region 4 + 4 * region 5 + 16 * region 6 + 64 * region 7),
        byteOf (region 0 + 4 * region 1 + 16 * region 2 + 64 * region 3),
        (match x.condition with
          | .disabled => 0
          | .enabled => 1
          | .dropped .unrepairable => 2
          | .dropped .headFault => 3),
        byteOf ((if x.flags.coverageGap then 1 else 0) + (if x.flags.strobeClamped then 2 else 0) +
          (if x.flags.tested then 4 else 0) + if x.flags.laneDegraded then 8 else 0)] ++
       be32 x.counts.compares ++ be16 x.counts.fails ++ be16 x.counts.lost ++ be16 x.counts.skipped ++
       be16 x.counts.strays))

/-- The scan: over 1024 word periods from its start, a phase passes exactly when all sixteen of its words agree (section 6.5), and words agree when they are equal and both have odd parity (section 6.2). Of the word periods in a stage's row those are given whose carrier word has odd parity and a known kind (section 2.2; that the others come as lane word errors is the model's choice, log entry 14). -/
def Obligations.ScanPassesThePhasesThatAgree : Prop :=
  (∀ words : List WordPair, words.length = 1024 →
    let scan := words.foldl Scan.compare {}
    scan.words = 1024 ∧ ∀ p : Fin 64, scan.passed.getLsbD p.val = ((words.drop (16 * p.val)).take 16).all wordsAgree) ∧
  (∀ p : WordPair, wordsAgree p = true ↔
    p.reference = p.other ∧ oddOnes p.reference = true ∧ oddOnes p.other = true) ∧
  (∀ words : List WordPair, passedPeriods words =
    words.filter fun p => oddOnes p.reference && decide ((p.reference.extractLsb' 0 3).toNat ≤ 4))

/-- The window rule: the found phase is the window's start plus the whole part of (length - 1) / 2, and the scan fails when the window is shorter than 6 phases or no phase passed (R116). -/
def Obligations.WindowRule : Prop :=
  ∀ passed : BitVec 64,
    ((∃ p n : Nat, IsWindow passed p n) ↔ ∃ p : Fin 64, passed.getLsbD p.val = true) ∧
    ((∀ p : Fin 64, passed.getLsbD p.val = false) → foundPhase passed = none) ∧
    (∀ p n : Nat, IsWindow passed p n →
      (n < 6 → foundPhase passed = none) ∧
      (6 ≤ n → (foundPhase passed).map Fin.val = some (p + (n - 1) / 2) ∧ passed.getLsbD (p + (n - 1) / 2) = true))

/-- A calibration tick, and the tick at an interval count of 1 (or of 0, which no run reaches) that reloads the count, sets the due flag and attempts a start (section 6.3; the tick at 0 is the model's choice, log entry 6, and so is that the rows of their own act only where due, log entry 5). The attempt: with the rotation RUNNING, the due flag set and the spare IDLE, the first eligible position of the order table from the rotation index on gives the target; with none eligible the due flag is cleared; otherwise nothing happens (section 6.4 and the start of section 6.6). -/
def Obligations.TicksAndRunStarts : Prop :=
  (∀ s : State,
     (s.cal.running = false → exec .calibrationTick s = .next s.begin ∧ exec .intervalCountExpiry s = .next s.begin) ∧
     (s.cal.running = true → 1 < s.cal.count.toNat →
       (Reaches (exec .calibrationTick s) fun t =>
         t.cal.count.toNat + 1 = s.cal.count.toNat ∧ t = { s.begin with cal := { s.cal with count := t.cal.count } }) ∧
       exec .intervalCountExpiry s = .next s.begin) ∧
     (s.cal.running = true → s.cal.count.toNat ≤ 1 →
       let u : State := { s.begin with cal := { s.cal with count := s.tables.reload, due := true } }
       exec .calibrationTick s = .next u.attemptRun ∧ exec .intervalCountExpiry s = .next u.attemptRun)) ∧
  (∀ s : State, 1 ≤ s.tables.orderLength → s.tables.orderLength ≤ 16 →
     let n := s.tables.orderLength
     let siteAt (j : Nat) : SiteNo := s.tables.order.get (Fin.ofNat 16 ((s.cal.index.val + j) % n))
     let eligible (j : Nat) : Prop := (s.site (siteAt j)).condition = .enabled ∧ (s.site (siteAt j)).lane = .online
     let ready := s.cal.running = true ∧ s.cal.due = true ∧ s.cal.spare = .idle
     exec .calibrationRunStart s = .next s.begin.attemptRun ∧
     (¬ready → exec .calibrationRunStart s = .next s.begin) ∧
     (ready → (∀ j < n, ¬eligible j) →
       exec .calibrationRunStart s = .next { s.begin with cal := { s.cal with due := false } }) ∧
     (∀ j < n, ready → eligible j → (∀ k < j, ¬eligible k) →
       Reaches (exec .calibrationRunStart s) fun t =>
         t.cal.index.val = ((s.cal.index.val + j) % n + 1) % n ∧
         t = { s.begin with cal := { s.cal.released with
           due := false, spare := .training, target := some (siteAt j), index := t.cal.index } }))

/-- TRAINING_SCAN_END: the word periods given to a training scan in progress, its end with a found phase (the lane SHADOWED) or without (a training failure), and no effect outside a training scan. OFFLINE_SCAN_END: the word periods given to an offline scan in progress, its end with a working phase (the lane in SOAK, the soak length read) or as an attempt failure. A lane word error on the carrier is counted and is a word period of the scan too (section 6.6, R127; that the rows carry the words, and may carry a part of a scan, is the model's choice, log entry 14; that a lane word error may end a scan in its own step is its inference, log entry 32). -/
def Obligations.TrainingAndOfflineScansEnd : Prop :=
  (∀ (words : List WordPair) (s : State),
     ((∀ i : SiteNo, s.stage ≠ .trainingScan i) → exec (.trainingScanEnd words) s = .next s.begin) ∧
     ((∀ i : SiteNo, s.stage ≠ .offlineScan i) → exec (.offlineScanEnd words) s = .next s.begin)) ∧
  (∀ (row : Instr) (given : List WordPair) (s u : State) (i : SiteNo),
     s.cal.spare = .training → s.cal.target = some i → (s.site i).lane = .online →
     (∃ words, row = .trainingScanEnd words ∧ given = passedPeriods words ∧ u = s.begin) ∨ Spoils s i row given u →
     let scan := given.foldl Scan.compare s.cal.scan
     (scan.words < 1024 → exec row s = .next { u with cal := { s.cal with scan := scan } }) ∧
     (1024 ≤ scan.words → ∀ p : Phase, foundPhase scan.passed = some p →
       exec row s = .next { u.setSite i { u.site i with lane := .shadowed } with
         cal := { s.cal with found := some p, scan := {}, words := 0, run := 0 } }) ∧
     (1024 ≤ scan.words → foundPhase scan.passed = none →
       exec row s = .next (State.attemptRun { u with
         cal := { s.cal.released with trainingFailures := satAdd s.cal.trainingFailures 1 } }))) ∧
  (∀ (row : Instr) (given : List WordPair) (s u : State) (i : SiteNo),
     s.cal.spare = .standingIn → s.cal.target = some i → (s.site i).lane = .offlineCal →
     (∃ words, row = .offlineScanEnd words ∧ given = passedPeriods words ∧ u = s.begin) ∨ Spoils s i row given u →
     let scan := given.foldl Scan.compare s.cal.scan
     let attempts := s.cal.attempts + 1
     (scan.words < 1024 → exec row s = .next { u with cal := { s.cal with scan := scan } }) ∧
     (1024 ≤ scan.words → ∀ p : Phase, foundPhase scan.passed = some p →
       exec row s = .next { u.setSite i { u.site i with lane := .soak } with
         cal := { s.cal with
           working := some p, scan := {}, words := 0, run := 0, soakLength := s.tables.soak.toNat } }) ∧
     (1024 ≤ scan.words → foundPhase scan.passed = none → attempts < 3 →
       exec row s = .next { u with cal := { s.cal.offline with attempts := attempts } }) ∧
     (1024 ≤ scan.words → foundPhase scan.passed = none → 3 ≤ attempts →
       exec row s = .next (State.raiseFlag
         { u.setSite i { u.site i with
             lane := .degraded, flags := { (u.site i).flags with laneDegraded := true } } with
           cal := { s.cal.offline with spare := .committed, attempts := attempts } } .laneDegraded)))

/-- Shadow agreement: 64 consecutive agreeing words make the handover due, the 1024th word without them is a training failure; HANDOVER, when due, makes the spare the carrier and begins the offline scan. A lane word error on the carrier is counted and is a word of the agreement too: one whose parity does not hold sets the run to 0 (section 6.6, R127; the words in the rows are the model's choice, log entry 14; that a lane word error may end the agreement in its own step is its inference, log entry 32). `n` is the word count and the run of agreeing words after the words given. -/
def Obligations.ShadowAgreementAndHandover : Prop :=
  (∀ (words : List WordPair) (s : State),
    (∀ i : SiteNo, s.stage ≠ .shadow i) →
      exec (.shadowAgreementSuccess words) s = .next s.begin ∧
      exec (.shadowAgreementTimeout words) s = .next s.begin ∧ exec .handover s = .next s.begin) ∧
  (∀ (row : Instr) (given : List WordPair) (s u : State) (i : SiteNo),
    s.cal.spare = .training → s.cal.target = some i → (s.site i).lane = .shadowed →
    (∃ words, (row = .shadowAgreementSuccess words ∨ row = .shadowAgreementTimeout words) ∧
      given = passedPeriods words ∧ u = s.begin) ∨ Spoils s i row given u →
    let n := given.foldl shadowWord (s.cal.words, s.cal.run)
    let counted : Cal := { s.cal with words := n.1, run := n.2 }
    let ended : State := { u.setSite i { u.site i with lane := .online } with
      cal := { s.cal.released with trainingFailures := satAdd s.cal.trainingFailures 1 } }
    (64 ≤ n.2 → exec row s = .next { u with cal := { counted with boundary := some .handover } }) ∧
    (n.2 < 64 → n.1 < 1024 → exec row s = .next { u with cal := counted }) ∧
    (n.2 < 64 → 1024 ≤ n.1 → exec row s = .next ended.attemptRun)) ∧
  (∀ (s : State) (i : SiteNo), s.cal.spare = .training → s.cal.target = some i → (s.site i).lane = .shadowed →
    (s.cal.boundary ≠ some .handover → exec .handover s = .next s.begin) ∧
    (s.cal.boundary = some .handover →
      exec .handover s = .next { s.begin.setSite i { s.site i with lane := .offlineCal } with cal := s.cal.offline })) ∧
  (∀ (agreeing : List WordPair) (n r : Nat), (∀ p ∈ agreeing, wordsAgree p = true) → r + agreeing.length ≤ 64 →
    n + agreeing.length ≤ 1024 → agreeing.foldl shadowWord (n, r) = (n + agreeing.length, r + agreeing.length)) ∧
  (∀ (p : WordPair) (n r : Nat), wordsAgree p = false → r < 64 → n < 1024 → shadowWord (n, r) p = (n + 1, 0))

/-- A soak: the first disagreeing word is an attempt failure, the soak length of agreeing words makes the hand-back due, and HAND_BACK, when due, gives the lane back at its working phase, writes that phase to the TRIM entry and releases the spare. A lane word error on the carrier is counted and is a word of the soak too: one whose parity does not hold fails it (section 6.6, R127; the words in the rows are the model's choice, log entry 14; that a lane word error may end the soak in its own step is its inference, log entry 32). `done` is the word count and whether a word disagreed. -/
def Obligations.SoakAndHandBack : Prop :=
  (∀ (words : List WordPair) (s : State),
    (∀ i : SiteNo, s.stage ≠ .soak i) →
      exec (.soakDisagreement words) s = .next s.begin ∧ exec (.soakSuccess words) s = .next s.begin ∧
      exec .handBack s = .next s.begin) ∧
  (∀ (row : Instr) (given : List WordPair) (s u : State) (i : SiteNo),
    s.cal.spare = .standingIn → s.cal.target = some i → (s.site i).lane = .soak →
    (∃ words, (row = .soakDisagreement words ∨ row = .soakSuccess words) ∧
      given = passedPeriods words ∧ u = s.begin) ∨ Spoils s i row given u →
    let done := given.foldl (soakWord s.cal.soakLength) (s.cal.words, false)
    let attempts := s.cal.attempts + 1
    (done.2 = true → attempts < 3 →
      exec row s = .next { u.setSite i { u.site i with lane := .offlineCal } with
        cal := { s.cal.offline with attempts := attempts } }) ∧
    (done.2 = true → 3 ≤ attempts →
      exec row s = .next (State.raiseFlag
        { u.setSite i { u.site i with
            lane := .degraded, flags := { (u.site i).flags with laneDegraded := true } } with
          cal := { s.cal.offline with spare := .committed, attempts := attempts } } .laneDegraded)) ∧
    (done.2 = false → done.1 < s.cal.soakLength →
      exec row s = .next { u with cal := { s.cal with words := done.1 } }) ∧
    (done.2 = false → s.cal.soakLength ≤ done.1 →
      exec row s = .next { u with cal := { s.cal with words := done.1, boundary := some .handBack } })) ∧
  (∀ (s : State) (i : SiteNo), s.cal.spare = .standingIn → s.cal.target = some i → (s.site i).lane = .soak →
    (s.cal.boundary ≠ some .handBack → exec .handBack s = .next s.begin) ∧
    (∀ p : Phase, s.cal.boundary = some .handBack → s.cal.working = some p →
      exec .handBack s = .next (State.attemptRun { s.begin.setSite i { s.site i with lane := .online } with
        tables := { s.tables with trim := s.tables.trim.set i { s.trim i with phase := p } }
        cal := { s.cal.released with runs := satAdd s.cal.runs 1 } }))) ∧
  (∀ (agreeing : List WordPair) (length n : Nat), (∀ p ∈ agreeing, wordsAgree p = true) →
    n + agreeing.length ≤ length → agreeing.foldl (soakWord length) (n, false) = (n + agreeing.length, false)) ∧
  (∀ (p : WordPair) (length n : Nat), wordsAgree p = false → n < length → soakWord length (n, false) p = (n + 1, true))

/-- The CAL CONTROL actions: START, STOP and STATUS, ABORT in every spare state, RETRY with its refusals; each answered with the calibration status, byte by byte, as it stands after the request (sections 6.3 and 6.7, section 10.6; that a hand-over waits for no word boundary is the model's choice, log entries 12 and 13). -/
def Obligations.CalControlActions : Prop :=
  ∀ (s : State) (c : Ctl) (site : Byte) (rest : List Byte), s.executes c 0x40 →
    let answered (status : Byte) (v : State) : State := v.responded (v.responseBytes c 0x40 status v.calData)
    let u (action : Byte) := s.controlSlot c 0x40 (action :: site :: rest)
    (s.cal.running = false → exec (.calControlStart c site rest) s =
      .next (answered 0 { u 1 with cal := { s.cal with running := true, count := s.tables.reload } })) ∧
    (s.cal.running = true → exec (.calControlStart c site rest) s = .next (answered 0 (u 1))) ∧
    (s.cal.running = true → exec (.calControlStop c site rest) s =
      .next (answered 0 { u 2 with cal := { s.cal with running := false, due := false } })) ∧
    (s.cal.running = false → exec (.calControlStop c site rest) s = .next (answered 0 (u 2))) ∧
    (s.cal.spare = .idle → exec (.calControlAbort c site rest) s = .next (answered 0 (u 3))) ∧
    (∀ i : SiteNo, s.cal.spare ≠ .idle → s.cal.target = some i → exec (.calControlAbort c site rest) s =
      .next (answered 0 (State.attemptRun { (u 3).setSite i { (u 3).site i with lane := .online } with
        cal := s.cal.released }))) ∧
    (15 < site.toNat → exec (.calControlRetry c site rest) s = .next (answered 3 (u 4))) ∧
    (∀ i : SiteNo, site.toNat = i.val →
      ((s.site i).lane = .degraded → (s.site i).condition = .enabled → exec (.calControlRetry c site rest) s =
        .next (answered 0 { (u 4).setSite i { (u 4).site i with lane := .offlineCal } with
          cal := { s.cal.offline with attempts := 0 } })) ∧
      ((s.site i).lane ≠ .degraded ∨ (s.site i).condition ≠ .enabled →
        exec (.calControlRetry c site rest) s = .next (answered 1 (u 4)))) ∧
    exec (.calControlStatus c site rest) s = .next (answered 0 (u 5)) ∧
    ∀ v : State,
      let lane (i : SiteNo) : Nat := match (v.site i).lane with
        | .online => 0
        | .shadowed => 1
        | .offlineCal => 2
        | .soak => 3
        | .degraded => 4
      let swept : Byte := byteOf (v.cal.scan.words / 16 % 64)
      v.calData =
        [byteOf ((if v.cal.running then 1 else 0) + if v.cal.due then 2 else 0)] ++ be16 v.cal.count ++
        [byteOf v.cal.index.val,
         (match v.cal.spare with
           | .idle => 0
           | .training => 1
           | .standingIn => 2
           | .committed => 3),
         (match v.cal.spare, v.cal.found with
           | .idle, _ => byteOf (v.tables.factory.get 16).val
           | _, some p => byteOf p.val
           | _, none => swept),
         (match v.cal.target with
           | some i => byteOf i.val
           | none => 0xFF),
         (match v.cal.target.map fun i => (v.site i).lane with
           | some .offlineCal => swept
           | some .soak => (match v.cal.working with
             | some p => byteOf p.val
             | none => 0xFF)
           | _ => 0xFF),
         byteOf v.cal.attempts,
         byteOf (lane 0 + 16 * lane 1), byteOf (lane 2 + 16 * lane 3), byteOf (lane 4 + 16 * lane 5),
         byteOf (lane 6 + 16 * lane 7), byteOf (lane 8 + 16 * lane 9), byteOf (lane 10 + 16 * lane 11),
         byteOf (lane 12 + 16 * lane 13), byteOf (lane 14 + 16 * lane 15)] ++
        be16 v.cal.runs ++ be16 v.cal.trainingFailures

/-- A frame from the part below: dropped and counted when bad, discarded when IDLE, else offered to the FIFO, with HOF_OUT asserted at 5 and RETURN_OVERRUN set at 8; while CRST_N is held asserted a bad frame is counted and a good one is not taken; the loss of the return signal changes nothing held (sections 8.1, 8.2 and 8.7; log entries 16 and 17). -/
def Obligations.ReturnArrivals : Prop :=
  ∀ (f : Frame) (s : State),
    exec .returnSignalLost s = .next s.begin ∧
    (frameGood f = false → exec (.returnFrameReceived f) s =
      .next { s.begin with ret := { s.ret with checkErrors := satAdd s.ret.checkErrors 1 } }) ∧
    (frameGood f = true → f.kind = 0x00 → exec (.returnFrameReceived f) s = .next s.begin) ∧
    (frameGood f = true → s.link.crst = true → exec (.returnFrameReceived f) s = .next s.begin) ∧
    (s.link.crst = false →
      (frameGood f = true → f.kind ≠ 0x00 → s.ret.fifo.length < 8 → exec (.returnFrameReceived f) s =
        .next { s.begin with ret := { s.ret with
          fifo := s.ret.fifo ++ [f], hofOut := s.ret.hofOut || decide (5 ≤ s.ret.fifo.length + 1) } }) ∧
      (frameGood f = true → f.kind ≠ 0x00 → 8 ≤ s.ret.fifo.length →
        exec (.returnFrameReceived f) s = .next (s.begin.raiseFlag .returnOverrun)))

/-- One return frame slot: IDLE while held off, else the side that waits, the one the alternation bit names where both wait; what is served leaves its queue and is sent, responses before reports; HOF_OUT is released at 2 and a freed report place is filled (R162 with R157, R158, R160, R163). -/
def Obligations.ArbiterServesOneSidePerSlot : Prop :=
  ∀ s : State, s.link.crst = false →
    let passWaits := s.ret.fifo ≠ []
    let localWaits := s.ret.responses ≠ [] ∨ s.ret.reports ≠ []
    let passServed := s.ret.hofIn = false ∧ passWaits ∧ (localWaits → s.ret.turn = .passThrough)
    let localServed := s.ret.hofIn = false ∧ localWaits ∧ (passWaits → s.ret.turn = .localSide)
    let sends (f : Frame) : Output := { down := none, up := some f, commands := [] }
    (s.ret.hofIn = true ∨ (¬passWaits ∧ ¬localWaits) →
      ∃ idle : Frame, idle.kind = 0x00 ∧ frameGood idle = true ∧ (∀ b ∈ idle.body.drop 1, b = 0) ∧
        exec .returnFrameSlot s = .next { s with out := sends idle }) ∧
    (∀ (f : Frame) (rest : List Frame), s.ret.fifo = f :: rest → passServed →
      exec .returnFrameSlot s = .next { s with
        out := sends f
        ret := { s.ret with
          fifo := rest, hofOut := s.ret.hofOut && decide (2 < rest.length), turn := .localSide } }) ∧
    (∀ (f : Frame) (rest : List Frame), s.ret.responses = f :: rest → localServed →
      exec .returnFrameSlot s = .next { s with
        out := sends f, ret := { s.ret with responses := rest, turn := .passThrough } }) ∧
    (∀ (f : Frame) (rest : List Frame), s.ret.responses = [] → s.ret.reports = f :: rest → localServed →
      let freed : State := { s with out := sends f, ret := { s.ret with reports := rest, turn := .passThrough } }
      (s.pass.summary.isSome = true → exec .returnFrameSlot s = .next freed.enqueueSummary) ∧
      (s.pass.summary = none → exec .returnFrameSlot s = .next freed.admitNotice)) ∧
    ((passServed ∨ localServed) ∨ s.ret.hofIn = true ∨ (¬passWaits ∧ ¬localWaits)) ∧ ¬(passServed ∧ localServed)

/-- The setting of a notice flag: no effect when set already; silent when its mask bit is clear; else one notice becomes due, built with the flags as they stand and enqueued, or joining the pending list once (sections 8.5). PENDING_NOTICE_ENTERS: the oldest pending notice takes a free place when no summary waits (that its row acts only where due is the model's choice, log entry 5). -/
def Obligations.NoticeFlagsAndPendingNotices : Prop :=
  (∀ (s : State) (f : NoticeFlag),
    let flags : Byte := s.notice.flags ||| (1#8 <<< f.bit)
    let u : State := { s with notice := { s.notice with flags := flags } }
    let free := s.ret.reports.length < 32 ∧ s.pass.summary = none
    (s.notice.flags.getLsbD f.bit = true → s.raiseFlag f = s) ∧
    (s.notice.flags.getLsbD f.bit = false →
      (s.notice.mask.getLsbD f.bit = false → s.raiseFlag f = u) ∧
      (s.notice.mask.getLsbD f.bit = true → free → s.notice.waiting = [] →
        s.raiseFlag f = { u with ret := { s.ret with
          reports := s.ret.reports ++ [mkFrame 0x82 [s.source, byteOf f.bit, flags, flags &&& s.notice.mask]] } }) ∧
      (s.notice.mask.getLsbD f.bit = true → ¬free ∨ s.notice.waiting ≠ [] →
        s.raiseFlag f = if f ∈ s.notice.waiting then u
          else { u with notice := { u.notice with waiting := s.notice.waiting ++ [f] } }))) ∧
  (∀ s : State,
    (s.notice.waiting = [] ∨ s.reportRoom = false ∨ s.pass.summary.isSome = true →
      exec .pendingNoticeEnters s = .next s.begin) ∧
    (∀ (f : NoticeFlag) (rest : List NoticeFlag), s.notice.waiting = f :: rest → s.reportRoom = true → s.pass.summary = none →
      exec .pendingNoticeEnters s = .next { s.begin with
        notice := { s.notice with waiting := rest }
        ret := { s.ret with reports := s.ret.reports ++
          [mkFrame 0x82 [s.source, byteOf f.bit, s.notice.flags, s.notice.flags &&& s.notice.mask]] } }))

/-- ENUMERATE by its addressing and position; and the requests refused with BAD_CODE, which change nothing but the response queue: an addressed ENUMERATE, a broadcast RESYNC, an unknown request code, an unknown CAL CONTROL action (sections 7.6, 7.7, 9.2 and 6.3). -/
def Obligations.EnumerateAndRefusedRequests : Prop :=
  ∀ (s : State) (c : Ctl),
    (∀ (p : Byte) (rest : List Byte), s.executes c 0x01 →
      let u := s.controlSlot c 0x01 (p :: rest)
      (ctlTarget c ≠ 15 → exec (.enumerate c p rest) s = .next (u.responded (u.responseBytes c 0x01 4 []))) ∧
      (ctlTarget c = 15 → ∀ h : p.toNat < 8,
        let v : State := { u with chainPos := some ⟨p.toNat, h⟩ }
        v.source = p ∧
        exec (.enumerate c p rest) s = .next (v.responded (v.responseBytes c 0x01 0 [0x04, 0x16, s.revision, p]))) ∧
      (ctlTarget c = 15 → 8 ≤ p.toNat →
        let v : State := { u with chainPos := none }
        v.source = 15 ∧
        exec (.enumerate c p rest) s = .next (v.responded (v.responseBytes c 0x01 5 [0x04, 0x16, s.revision, 15])))) ∧
    (∀ params : List Byte, s.executes c 0x02 → ctlTarget c = 15 →
      let u := s.controlSlot c 0x02 params
      exec (.resync c params) s = .next (u.responded (u.responseBytes c 0x02 4 []))) ∧
    (∀ (code : Byte) (params : List Byte), s.executes c code → requestCodes.contains code.toNat = false →
      let u := s.controlSlot c code params
      exec (.unknownRequest c code params) s = .next (u.responded (u.responseBytes c code 4 []))) ∧
    (∀ (action : Byte) (rest : List Byte), s.executes c 0x40 → action = 0 ∨ 5 < action.toNat →
      let u := s.controlSlot c 0x40 (action :: rest)
      exec (.unknownRequest c 0x40 (action :: rest)) s = .next (u.responded (u.responseBytes c 0x40 4 u.calData)))

/-- READ STATUS with its report and the clearing of REQUESTS_LOST, SET REPORTING with the return-link status after it, CLEAR FLAGS with the flag sets after it (sections 8.5, 8.6 and 9.4, section 10.6). -/
def Obligations.StatusAndReportingRequests : Prop :=
  ∀ (s : State) (c : Ctl),
    (∀ params : List Byte, s.executes c 0x04 →
      let u := s.controlSlot c 0x04 params
      let data := [0x04, 0x16, s.revision, if s.cal.running then 6 else 2, u.link.k.getD 0, u.link.lastCount.getD 0,
        s.source, s.cause.code, u.pass.state.code, u.pass.number, u.notice.flags, u.notice.flags &&& s.notice.mask] ++
        be16 s.expander.gaps ++ be16 u.link.checkErrors ++ be16 u.link.unknownKinds ++ be32 u.link.exerciseErrors
      data.length = 22 ∧
      exec (.readStatus c params) s = .next { u.responded (u.responseBytes c 0x04 0 data) with
        notice := { u.notice with flags := u.notice.flags &&& 0x7F } }) ∧
    (∀ (enables : Half) (mask : Byte) (rest : List Byte), s.executes c 0x05 →
      let u := s.controlSlot c 0x05 (be16 enables ++ mask :: rest)
      let v : State := { u with ret := { u.ret with rawLog := enables }, notice := { u.notice with mask := mask } }
      let waiting := match u.pass.summary with
        | some i => 16 - i.val
        | none => 0
      exec (.setReporting c enables mask rest) s = .next (v.responded (v.responseBytes c 0x05 0 (
        be16 enables ++ [mask, u.notice.flags, u.notice.flags &&& mask, byteOf u.ret.fifo.length,
          byteOf u.ret.responses.length, byteOf u.ret.reports.length, byteOf u.notice.waiting.length, byteOf waiting,
          byteOf ((if u.ret.hofOut then 1 else 0) + if u.ret.hofIn then 2 else 0)] ++
        be16 u.ret.drops ++ be16 u.ret.checkErrors)))) ∧
    (∀ (flags : Byte) (rest : List Byte), s.executes c 0x06 →
      let u := s.controlSlot c 0x06 (flags :: rest)
      let v : State := { u with notice := { u.notice with flags := u.notice.flags &&& ~~~ flags } }
      exec (.clearFlags c flags rest) s =
        .next (v.responded (v.responseBytes c 0x06 0 [v.notice.flags, v.notice.flags &&& s.notice.mask])))

/-- READ TABLE, READ SITE COUNTS and READ SITE ANALYSIS change nothing but the response queue: BAD_INDEX or BAD_CODE out of range, else the report of section 10.6 from the state as it stands, the site counts, the history ring and the analysis record byte by byte. -/
def Obligations.ReadRequestsOnlyAnswer : Prop :=
  ∀ (s : State) (c : Ctl),
    (∀ (table start : Byte) (rest : List Byte), s.executes c 0x11 →
      let u := s.controlSlot c 0x11 (table :: start :: rest)
      (tableOf table = none → exec (.readTable c table start rest) s = .next (u.responded (u.responseBytes c 0x11 4 []))) ∧
      (∀ t : TableId, tableOf table = some t →
        (t.lastIndex < start.toNat →
          exec (.readTable c table start rest) s = .next (u.responded (u.responseBytes c 0x11 3 []))) ∧
        (start.toNat ≤ t.lastIndex →
          let n := min (23 / t.entrySize) (t.lastIndex + 1 - start.toNat)
          let entries := (List.range n).map fun j => s.readEntry t (start.toNat + j)
          (∀ b ∈ entries, b.length = t.entrySize) ∧
          exec (.readTable c table start rest) s =
            .next (u.responded (u.responseBytes c 0x11 0 (start :: byteOf n :: entries.flatten)))))) ∧
    (∀ (site chunk : Byte) (rest : List Byte), s.executes c 0x22 →
      let u := s.controlSlot c 0x22 (site :: chunk :: rest)
      (15 < site.toNat ∨ 4 < chunk.toNat →
        exec (.readSiteCounts c site chunk rest) s = .next (u.responded (u.responseBytes c 0x22 3 []))) ∧
      (∀ i : SiteNo, site.toNat = i.val → chunk.toNat ≤ 4 →
        exec (.readSiteCounts c site chunk rest) s = .next (u.responded (u.responseBytes c 0x22 0
          (if chunk = 0 then (u.site i).countsData site else (u.site i).ringData chunk.toNat))))) ∧
    (∀ (site region chunk : Byte) (rest : List Byte), s.executes c 0x23 →
      let u := s.controlSlot c 0x23 (site :: region :: chunk :: rest)
      (15 < site.toNat ∨ 7 < region.toNat ∨ 6 < chunk.toNat →
        exec (.readSiteAnalysis c site region chunk rest) s = .next (u.responded (u.responseBytes c 0x23 3 []))) ∧
      (∀ (i : SiteNo) (g : RegionNo), site.toNat = i.val → region.toNat = g.val → chunk.toNat ≤ 6 →
        let r := (u.site i).records.get g
        exec (.readSiteAnalysis c site region chunk rest) s = .next (u.responded (u.responseBytes c 0x23 0
          (if chunk = 0 then r.headData (u.site i).verdict site region else r.sparseData site region chunk))))) ∧
    (∀ (x : Site) (site : Byte),
      x.countsData site =
        [site, 0,
         byteOf ((match x.condition with
           | .disabled => 0
           | .enabled => 1
           | .dropped .unrepairable => 2
           | .dropped .headFault => 3) + 4 * match x.hold with
           | .free => 0
           | .pending => 1
           | .granted => 2)] ++
        be32 x.counts.compares ++ be16 x.counts.fails ++ be16 x.counts.lost ++ be16 x.counts.skipped ++
        be16 x.counts.strays ++ be16 x.laneErrors ++
        [byteOf ((if x.flags.coverageGap then 1 else 0) + (if x.flags.strobeClamped then 2 else 0) +
           (if x.flags.tested then 4 else 0) + if x.flags.laneDegraded then 8 else 0),
         byteOf x.queue.length, byteOf (x.queue.countP fun e => e.counted), byteOf x.ring.length] ++
        be16 x.counts.ringWrites) ∧
    (∀ (x : Site) (chunk : Nat),
      let here := (x.ring.drop (2 * chunk - 2)).take 2
      x.ringData chunk = [byteOf (x.ring.length + 16 * here.length)] ++ be16 x.counts.ringWrites ++
        (here.map fun e => be32 e.ext ++ [byteOf (e.region.val + if e.mark then 64 else 0)] ++ be16 e.row ++
          be16 (e.col.setWidth 16) ++ be16 e.failBits).flatten) ∧
    (let packed (a b : Col) : List Byte :=
       [byteOf (a.toNat / 16), byteOf (a.toNat % 16 * 16 + b.toNat / 256), byteOf (b.toNat % 256)]
     let code (state : RegionState) : Nat := match state with
       | .clean => 0
       | .repairable => 1
       | .unrepairable => 2
     (∀ (r : Record) (verdict : RegionState) (site region : Byte),
       let row (n : Nat) : Half := r.mustRows.getD n 0
       let col (n : Nat) : Col := r.mustCols.getD n 0
       r.headData verdict site region =
         [byteOf (site.toNat + 16 * region.toNat), 0, byteOf (code r.state + 4 * code verdict),
          byteOf (r.loadedRows + 16 * r.loadedCols), byteOf (r.rr + 16 * r.rc),
          byteOf (r.mustRows.length + 8 * r.mustCols.length + if r.cause.isSome then 64 else 0), byteOf r.sparse.length] ++
         be16 (row 0) ++ be16 (row 1) ++ be16 (row 2) ++ be16 (row 3) ++
         packed (col 0) (col 1) ++ packed (col 2) (col 3) ++
         (match r.cause with
           | some p => be16 p.1 ++ be16 (p.2.setWidth 16)
           | none => [0, 0, 0, 0])) ∧
     ∀ (r : Record) (site region chunk : Byte), chunk ≠ 0 →
       let first := 6 * (chunk.toNat - 1)
       let n := min 6 (r.sparse.length - first)
       let pair (k : Nat) : Half × Col := if k < n then r.sparse.getD (first + k) (0, 0) else (0, 0)
       r.sparseData site region chunk =
         [byteOf (site.toNat + 16 * region.toNat), chunk, byteOf r.sparse.length, byteOf n] ++
         be16 (pair 0).1 ++ be16 (pair 1).1 ++ packed (pair 0).2 (pair 1).2 ++
         be16 (pair 2).1 ++ be16 (pair 3).1 ++ packed (pair 2).2 (pair 3).2 ++
         be16 (pair 4).1 ++ be16 (pair 5).1 ++ packed (pair 4).2 (pair 5).2)

/-- WRITE TABLE: the three whole-request checks in order, then the entries one after another until the first refused one; the entries before it stand, and the response carries the status, the count applied and CLAMPED (section 1.2, section 10.7). -/
def Obligations.WriteTableAppliesEntriesInOrder : Prop :=
  ∀ (s : State) (c : Ctl) (table start count : Byte) (entries : List Byte), s.executes c 0x10 →
    let u := s.controlSlot c 0x10 (table :: start :: count :: entries)
    let inPass : Prop := u.pass.state = .opened ∨ u.pass.state = .closing
    let refused (status : Byte) : Prop :=
      exec (.writeTable c table start count entries) s = .next (u.responded (u.responseBytes c 0x10 status [0]))
    (tableOf table = none ∨ tableOf table = some .factoryPhase → refused 4) ∧
    ∀ t : TableId, tableOf table = some t → t ≠ .factoryPhase →
      (t.lockedInPass = true ∧ inPass → refused 1) ∧
      (¬(t.lockedInPass = true ∧ inPass) → 23 / t.entrySize < count.toNat → refused 4) ∧
      (¬(t.lockedInPass = true ∧ inPass) → count.toNat ≤ 23 / t.entrySize →
        ∃ (st : Nat → State) (clamped : Nat → Bool) (applied : Nat) (status : Status),
          let entry (j : Nat) : List Byte := (entries.drop (j * t.entrySize)).take t.entrySize
          let code : Byte := status.code + if (List.range applied).any clamped then 0x80 else 0
          st 0 = u ∧ applied ≤ count.toNat ∧
          (∀ j < applied, (st j).writeEntry t (start.toNat + j) (entry j) = .ok (st (j + 1), clamped j)) ∧
          (applied = count.toNat → status = .accepted) ∧
          (applied < count.toNat → (st applied).writeEntry t (start.toNat + applied) (entry applied) = .error status) ∧
          exec (.writeTable c table start count entries) s =
            .next ((st applied).responded (u.responseBytes c 0x10 code [byteOf applied])))

/-- One entry of a WRITE TABLE: refused beyond the last index, for a code outside its set, or by the lane check; else written with every numeric field at the nearest limit, the CLAMPED indication telling whether one was moved, and nothing else changed (sections 1.1 and 1.2, section 10.7). -/
def Obligations.TableEntriesAreCheckedAndClamped : Prop :=
  ∀ (s : State) (index : Nat) (b : List Byte),
    let byte (i : Nat) : Nat := (b.getD i 0).toNat
    let wide (i : Nat) : Nat := byte i * 256 + byte (i + 1)
    let keeps (e : Written) (P : Tables → Bool → Prop) : Prop :=
      ∃ (t : Tables) (clamped : Bool), e = .ok ({ s with tables := t }, clamped) ∧ P t clamped
    (∀ t : TableId, t.lastIndex < index → s.writeEntry t index b = .error .badIndex) ∧
    (∀ k : Fin 16, index = k.val →
      (1 < byte 4 → s.writeEntry .timing index b = .error .badCode) ∧
      (byte 4 ≤ 1 → keeps (s.writeEntry .timing index b) fun t clamped =>
        (t.timing.get k).drive.toNat = min 1023 (wide 0) ∧ (t.timing.get k).base.toNat = min 1023 (wide 2) ∧
        (t.timing.get k).eye = (if byte 4 = 0 then .early else .late) ∧
        t = { s.tables with timing := s.tables.timing.set k (t.timing.get k) } ∧
        (clamped = true ↔ 1023 < wide 0 ∨ 1023 < wide 2)) ∧
      (1 < byte 3 → s.writeEntry .trim index b = .error .badCode) ∧
      (byte 3 = 0 → s.laneCheck k = false → s.writeEntry .trim index b = .error .busy) ∧
      (byte 3 = 0 → s.laneCheck k = true → keeps (s.writeEntry .trim index b) fun t clamped =>
        (t.trim.get k).early = b.getD 0 0 ∧ (t.trim.get k).late = b.getD 1 0 ∧
        (t.trim.get k).latency = max 4 (min 63 (byte 2)) ∧ (t.trim.get k).phase.val = min 63 (byte 4) ∧
        t = { s.tables with trim := s.tables.trim.set k (t.trim.get k) } ∧
        (clamped = true ↔ byte 2 < 4 ∨ 63 < byte 2 ∨ 63 < byte 4)) ∧
      (byte 3 = 1 → keeps (s.writeEntry .trim index b) fun t clamped =>
        (t.trim.get k).early = b.getD 0 0 ∧ (t.trim.get k).late = b.getD 1 0 ∧
        (t.trim.get k).latency = max 4 (min 63 (byte 2)) ∧ (t.trim.get k).phase = (s.trim k).phase ∧
        t = { s.tables with trim := s.tables.trim.set k (t.trim.get k) } ∧
        (clamped = true ↔ byte 2 < 4 ∨ 63 < byte 2)) ∧
      (s.laneCheck k = true ↔ (s.site k).lane = .online ∧ ¬(s.cal.spare = .training ∧ s.cal.target = some k)) ∧
      (15 < byte 0 → s.writeEntry .calOrder index b = .error .badIndex) ∧
      (∀ i : SiteNo, byte 0 = i.val →
        s.writeEntry .calOrder index b = .ok ({ s with tables := { s.tables with order := s.tables.order.set k i } }, false))) ∧
    (index = 16 → keeps (s.writeEntry .calOrder index b) fun t clamped =>
      t = { s.tables with orderLength := max 1 (min 16 (byte 0)) } ∧ (clamped = true ↔ byte 0 = 0 ∨ 16 < byte 0)) ∧
    (index = 0 → keeps (s.writeEntry .calParam index b) fun t clamped =>
      t.reload.toNat = max 1 (wide 0) ∧ t.soak.toNat = max 256 (min 4096 (wide 2)) ∧
      t = { s.tables with reload := t.reload, soak := t.soak } ∧
      (clamped = true ↔ wide 0 = 0 ∨ wide 2 < 256 ∨ 4096 < wide 2)) ∧
    (∀ k : Fin 31, index = k.val →
      (31 < byte 0 → byte 0 ≠ 0x40 → byte 0 ≠ 0x41 → s.writeEntry .scramble index b = .error .badCode) ∧
      (∀ source : BitSource, b.getD 0 0 = source.code → s.writeEntry .scramble index b = .ok ({ s with tables :=
        { s.tables with scramble := s.tables.scramble.set k { source := source, invert := (b.getD 1 0).getLsbD 0 } } }, false))) ∧
    (∀ k : Fin 8, index = k.val →
      (27 < byte 0 → s.writeEntry .selector index b = .error .badCode) ∧
      (∀ x : Selector, b.getD 0 0 = x.code →
        s.writeEntry .selector index b = .ok ({ s with tables := { s.tables with selector := s.tables.selector.set k x } }, false)) ∧
      keeps (s.writeEntry .region index b) fun t clamped =>
        t = { s.tables with region := s.tables.region.set k { sr := min 4 (byte 0), sc := min 4 (byte 1) } } ∧
        (clamped = true ↔ 4 < byte 0 ∨ 4 < byte 1)) ∧
    (∀ k : Fin 256, index = k.val →
      keeps (s.writeEntry .topology index b) fun t clamped =>
        (t.topology.get k).toNat = wide 0 ∧
        t = { s.tables with topology := s.tables.topology.set k (t.topology.get k) } ∧ clamped = false)

/-- A read run written back changes nothing: for every writable table and start index, the entries READ TABLE returns are accepted whole and unclamped by WRITE TABLE and leave the tables as they are, where the lanes of a TRIM run pass the lane check (sections 1.2 and 10.7). -/
def Obligations.ReadRunWritesBackUnchanged : Prop :=
  ∀ (s : State) (t : TableId) (table start : Byte),
    tableOf table = some t → t ≠ .factoryPhase → start.toNat ≤ t.lastIndex → s.tablesInRange = true →
    (t = .trim → ∀ i : SiteNo, start.toNat ≤ i.val → i.val < start.toNat + 4 → s.laneCheck i = true) →
    ∃ (n : Byte) (entries : List Byte),
      s.readTable table start = (.accepted, start :: n :: entries) ∧ 1 ≤ n.toNat ∧ n.toNat ≤ 23 / t.entrySize ∧
      entries.length = n.toNat * t.entrySize ∧
      s.writeTable false table start n entries = { state := s, status := .accepted, applied := n.toNat, clamped := false }

/-- A request taken with four responses queued is not executed: its frame is one slot, REQUESTS_LOST is set, and nothing else happens, whatever the request; with fewer it is executed and exactly one response joins, carrying its tag and request code, the reset of RESET PART apart, whose response is the only one left (sections 9.1 and 9.2, R176; that the rows UNKNOWN_REQUEST and CONTROL_FRAME_NOT_TAKEN execute what their code names is the model's choice, log entry 18). -/
def Obligations.FullResponseQueueLosesRequests : Prop :=
  ∀ (row : Instr) (c : Ctl) (code : Byte) (params : List Byte) (s : State),
    controlOf row = some (c, code, params) → s.actsOn (.control (ctlTarget c) code) = true → s.takes c = true →
    (4 ≤ s.ret.responses.length → exec row s = .next ((s.controlSlot c code params).raiseFlag .requestsLost)) ∧
    (s.ret.responses.length < 4 → Reaches (exec row s) fun t =>
      ∃ f : Frame, f.kind = 0x81 ∧ f.body.length = 29 ∧ frameGood f = true ∧ f.body.getD 1 0 = c.tag ∧ f.body.getD 2 0 = code ∧
        (code ≠ 0x03 → t.ret.responses = s.ret.responses ++ [f]) ∧ (code = 0x03 → t.ret.responses = [f]))

/-- A good CONTROL frame that the part acts on but does not take is its slot and nothing else; and what a CONTROL frame does depends on its bytes alone, not on the row it is commanded by (sections 7.5 and 9.1; that the row does not matter is the model's choice, log entry 18). -/
def Obligations.ControlFramesNotTakenAreSlots : Prop :=
  ∀ (row : Instr) (c : Ctl) (code : Byte) (params : List Byte) (s : State), controlOf row = some (c, code, params) →
    (s.actsOn (.control (ctlTarget c) code) = true → s.takes c = false →
      exec row s = .next (s.controlSlot c code params)) ∧
    (s.takes c = true ↔ ctlTarget c = 15 ∨ ∃ p : ChainPos, s.chainPos = some p ∧ ctlTarget c = p.val) ∧
    exec row s = exec (.controlFrameNotTaken c code params) s

/-- Frames and commands agree: every well-formed downstream row decodes back from the frame that carries it, and every 32-byte frame decodes to a well-formed row that carries it again. -/
def Obligations.FramesAndRowsAgree : Prop :=
  (∀ (c : Instr) (f : Frame), c.wellFormed = true → encodeFrame c = some f → wholeFrame f = true ∧ decodeFrame f = c) ∧
  (∀ f : Frame, wholeFrame f = true → (decodeFrame f).wellFormed = true ∧ encodeFrame (decodeFrame f) = some f)

/-- Return words and site command words: each return word row decodes back from its word, reserved bits are ignored, a word with even parity or a kind code of 5 to 7 is a lane word error; every site command word has odd parity, and commands that differ in anything but the region have different words (section 10.4; that the region is in the command and has no bits in the word is the model's choice, log entry 29). -/
def Obligations.LaneWordsAgree : Prop :=
  (∀ (i : SiteNo) (other : BitVec 36) (tag data : Half) (bits : Byte),
    decodeWord i ReturnWord.idle.word other = .idleWord i ∧
    decodeWord i (ReturnWord.readData tag data).word other = .readDataWord i tag data ∧
    decodeWord i (ReturnWord.status bits).word other = .statusWord i bits ∧
    decodeWord i ReturnWord.holdRequest.word other = .holdRequestWord i ∧
    decodeWord i ReturnWord.holdRelease.word other = .holdReleaseWord i) ∧
  (∀ (i : SiteNo) (w other : BitVec 36),
    let kind := (w.extractLsb' 0 3).toNat
    (oddOnes w = false ∨ 5 ≤ kind → decodeWord i w other = .laneWordError i { reference := w, other := other }) ∧
    (oddOnes w = true → kind = 0 → decodeWord i w other = .idleWord i) ∧
    (oddOnes w = true → kind = 1 → decodeWord i w other = .readDataWord i (w.extractLsb' 3 16) (w.extractLsb' 19 16)) ∧
    (oddOnes w = true → kind = 2 → decodeWord i w other = .statusWord i (w.extractLsb' 3 8)) ∧
    (oddOnes w = true → kind = 3 → decodeWord i w other = .holdRequestWord i) ∧
    (oddOnes w = true → kind = 4 → decodeWord i w other = .holdReleaseWord i)) ∧
  (∀ a : SiteCommand, oddOnes a.word = true) ∧ (∀ a b : SiteCommand, a.word = b.word →
    match a, b with
    | .write row col _ data drive, .write row' col' _ data' drive' =>
      row = row' ∧ col = col' ∧ data = data' ∧ drive = drive'
    | .read row col _ drive strobe tag, .read row' col' _ drive' strobe' tag' =>
      row = row' ∧ col = col' ∧ drive = drive' ∧ strobe = strobe' ∧ tag = tag'
    | _, _ => a = b)

/-- Every step keeps every table entry in its range; and every step keeps the FIFO within 8 frames, the response queue within 4, the report queue within 32, the pending list free of repeats, every expectation queue within 64 entries and every ring within 8. Every step keeps the order of every expectation queue: from head to tail the tags strictly increase in the modular distance from the head's tag and lie within 32767 of it, and the ages never rise (R43, R44). -/
def Obligations.TablesStayInRangeAndBuffersBounded : Prop :=
  (∀ s t : State, s.tablesInRange = true → step s = .next t → t.tablesInRange = true) ∧
  (∀ s t : State, s.buffersBounded = true → step s = .next t → t.buffersBounded = true) ∧
  (∀ s t : State, s.queuesInOrder = true → step s = .next t → t.queuesInOrder = true)

/-- Every step keeps every analysis record sound, given that the region table is in range. -/
def Obligations.StepsKeepRecordsSound : Prop :=
  ∀ s t : State, s.tablesInRange = true → s.recordsSound = true → step s = .next t → t.recordsSound = true

/-- Every step keeps this: a DISABLED, DROPPED or GRANTED site has an empty queue, a PENDING site is ENABLED with a non-empty one, and outside LIVE every queue is empty. -/
def Obligations.ParkedSitesStayEmpty : Prop :=
  ∀ s t : State, s.queuesQuiet = true → step s = .next t → t.queuesQuiet = true

/-- Every step keeps the spare state paired with the lane states: at most one lane is away from ONLINE, it is the target's, and the target is present exactly while the spare is not IDLE. -/
def Obligations.SpareAndLanesStayPaired : Prop :=
  ∀ s t : State, s.calPaired = true → step s = .next t → t.calPaired = true

/-- Every step keeps a part that passes all checks of Safety.lean passing them: beside the above, that the drain, the summaries, the pending notices, the rotation and the Link Receiver are at rest between steps. -/
def Obligations.SoundPartsStaySound : Prop :=
  ∀ s t : State, s.sound = true → step s = .next t → t.sound = true

/-- An analysis record changes only by a READ_DATA word at its own site, by OPEN PASS and by the resets: no other command changes one. A CONTROL frame commanded by its code alone (the model's own reading of those rows, log entry 18) is left out where its code is that of OPEN PASS or RESET PART. -/
def Obligations.OnlyComparesLoadsAndResetsChangeRecords : Prop :=
  ∀ (c : Instr) (s : State) (i : SiteNo),
    (match c with
      | .powerOnReset | .crstAsserted | .resetPart _ _ | .openPass _ _ _ => False
      | .readDataWord j _ _ => j ≠ i
      | .unknownRequest _ code _ | .controlFrameNotTaken _ code _ => code ≠ 0x03 ∧ code ≠ 0x30
      | _ => True) →
    Reaches (exec c s) fun t => (t.site i).records = (s.site i).records

/-- What one site's return lane or queue does stays at that site: a return word or an expiry at site i changes no other site, nor the link, the chain position, the cycle numbering, the response queue or the pass-through FIFO. -/
def Obligations.SiteEventsTouchNoOtherSite : Prop :=
  ∀ (c : Instr) (s : State) (i j : SiteNo), j ≠ i →
    (match c with
      | .readDataWord k _ _ | .statusWord k _ | .holdRequestWord k | .holdReleaseWord k | .idleWord k
      | .laneWordError k _ | .entryExpiry k => k = i
      | _ => False) →
    Reaches (exec c s) fun t =>
      t.site j = s.site j ∧ t.link = s.link ∧ t.chainPos = s.chainPos ∧ t.expander = s.expander ∧ t.cause = s.cause ∧
      t.ret.responses = s.ret.responses ∧ t.ret.fifo = s.ret.fifo
end

