-- ==== Sys2Proof/Laws/State.lean ====
section
/-! SUPPORT. What each plain update of the state does to each field, true by definition: no proof need unfold a record update. -/

namespace Sys2Proof.Machine

variable (s : State)

@[simp] theorem State.begin_link : (s.begin).link = s.link := rfl
@[simp] theorem State.begin_chainPos : (s.begin).chainPos = s.chainPos := rfl
@[simp] theorem State.begin_cause : (s.begin).cause = s.cause := rfl
@[simp] theorem State.begin_revision : (s.begin).revision = s.revision := rfl
@[simp] theorem State.begin_tables : (s.begin).tables = s.tables := rfl
@[simp] theorem State.begin_expander : (s.begin).expander = s.expander := rfl
@[simp] theorem State.begin_sites : (s.begin).sites = s.sites := rfl
@[simp] theorem State.begin_cal : (s.begin).cal = s.cal := rfl
@[simp] theorem State.begin_pass : (s.begin).pass = s.pass := rfl
@[simp] theorem State.begin_ret : (s.begin).ret = s.ret := rfl
@[simp] theorem State.begin_notice : (s.begin).notice = s.notice := rfl
@[simp] theorem State.begin_out : (s.begin).out = {} := rfl
@[simp] theorem State.begin_draws : (s.begin).draws = s.draws := rfl
@[simp] theorem State.begin_pending : (s.begin).pending = s.pending := rfl

@[simp] theorem State.setSite_link (i : SiteNo) (x : Site) : (s.setSite i x).link = s.link := rfl
@[simp] theorem State.setSite_chainPos (i : SiteNo) (x : Site) : (s.setSite i x).chainPos = s.chainPos := rfl
@[simp] theorem State.setSite_cause (i : SiteNo) (x : Site) : (s.setSite i x).cause = s.cause := rfl
@[simp] theorem State.setSite_revision (i : SiteNo) (x : Site) : (s.setSite i x).revision = s.revision := rfl
@[simp] theorem State.setSite_tables (i : SiteNo) (x : Site) : (s.setSite i x).tables = s.tables := rfl
@[simp] theorem State.setSite_expander (i : SiteNo) (x : Site) : (s.setSite i x).expander = s.expander := rfl
@[simp] theorem State.setSite_sites (i : SiteNo) (x : Site) : (s.setSite i x).sites = s.sites.set i x := rfl
@[simp] theorem State.setSite_cal (i : SiteNo) (x : Site) : (s.setSite i x).cal = s.cal := rfl
@[simp] theorem State.setSite_pass (i : SiteNo) (x : Site) : (s.setSite i x).pass = s.pass := rfl
@[simp] theorem State.setSite_ret (i : SiteNo) (x : Site) : (s.setSite i x).ret = s.ret := rfl
@[simp] theorem State.setSite_notice (i : SiteNo) (x : Site) : (s.setSite i x).notice = s.notice := rfl
@[simp] theorem State.setSite_out (i : SiteNo) (x : Site) : (s.setSite i x).out = s.out := rfl
@[simp] theorem State.setSite_draws (i : SiteNo) (x : Site) : (s.setSite i x).draws = s.draws := rfl
@[simp] theorem State.setSite_pending (i : SiteNo) (x : Site) : (s.setSite i x).pending = s.pending := rfl

@[simp] theorem State.onSite_link (i : SiteNo) (f : Site → Site) : (s.onSite i f).link = s.link := rfl
@[simp] theorem State.onSite_chainPos (i : SiteNo) (f : Site → Site) : (s.onSite i f).chainPos = s.chainPos := rfl
@[simp] theorem State.onSite_cause (i : SiteNo) (f : Site → Site) : (s.onSite i f).cause = s.cause := rfl
@[simp] theorem State.onSite_revision (i : SiteNo) (f : Site → Site) : (s.onSite i f).revision = s.revision := rfl
@[simp] theorem State.onSite_tables (i : SiteNo) (f : Site → Site) : (s.onSite i f).tables = s.tables := rfl
@[simp] theorem State.onSite_expander (i : SiteNo) (f : Site → Site) : (s.onSite i f).expander = s.expander := rfl
@[simp] theorem State.onSite_sites (i : SiteNo) (f : Site → Site) : (s.onSite i f).sites = s.sites.set i (f (s.site i)) := rfl
@[simp] theorem State.onSite_cal (i : SiteNo) (f : Site → Site) : (s.onSite i f).cal = s.cal := rfl
@[simp] theorem State.onSite_pass (i : SiteNo) (f : Site → Site) : (s.onSite i f).pass = s.pass := rfl
@[simp] theorem State.onSite_ret (i : SiteNo) (f : Site → Site) : (s.onSite i f).ret = s.ret := rfl
@[simp] theorem State.onSite_notice (i : SiteNo) (f : Site → Site) : (s.onSite i f).notice = s.notice := rfl
@[simp] theorem State.onSite_out (i : SiteNo) (f : Site → Site) : (s.onSite i f).out = s.out := rfl
@[simp] theorem State.onSite_draws (i : SiteNo) (f : Site → Site) : (s.onSite i f).draws = s.draws := rfl
@[simp] theorem State.onSite_pending (i : SiteNo) (f : Site → Site) : (s.onSite i f).pending = s.pending := rfl

@[simp] theorem State.onSites_link (f : Site → Site) : (s.onSites f).link = s.link := rfl
@[simp] theorem State.onSites_chainPos (f : Site → Site) : (s.onSites f).chainPos = s.chainPos := rfl
@[simp] theorem State.onSites_cause (f : Site → Site) : (s.onSites f).cause = s.cause := rfl
@[simp] theorem State.onSites_revision (f : Site → Site) : (s.onSites f).revision = s.revision := rfl
@[simp] theorem State.onSites_tables (f : Site → Site) : (s.onSites f).tables = s.tables := rfl
@[simp] theorem State.onSites_expander (f : Site → Site) : (s.onSites f).expander = s.expander := rfl
@[simp] theorem State.onSites_sites (f : Site → Site) : (s.onSites f).sites = mapVector f s.sites := rfl
@[simp] theorem State.onSites_cal (f : Site → Site) : (s.onSites f).cal = s.cal := rfl
@[simp] theorem State.onSites_pass (f : Site → Site) : (s.onSites f).pass = s.pass := rfl
@[simp] theorem State.onSites_ret (f : Site → Site) : (s.onSites f).ret = s.ret := rfl
@[simp] theorem State.onSites_notice (f : Site → Site) : (s.onSites f).notice = s.notice := rfl
@[simp] theorem State.onSites_out (f : Site → Site) : (s.onSites f).out = s.out := rfl
@[simp] theorem State.onSites_draws (f : Site → Site) : (s.onSites f).draws = s.draws := rfl
@[simp] theorem State.onSites_pending (f : Site → Site) : (s.onSites f).pending = s.pending := rfl

@[simp] theorem State.drawn_link : (s.drawn).link = s.link := rfl
@[simp] theorem State.drawn_chainPos : (s.drawn).chainPos = s.chainPos := rfl
@[simp] theorem State.drawn_cause : (s.drawn).cause = s.cause := rfl
@[simp] theorem State.drawn_revision : (s.drawn).revision = s.revision := rfl
@[simp] theorem State.drawn_tables : (s.drawn).tables = s.tables := rfl
@[simp] theorem State.drawn_expander : (s.drawn).expander = s.expander := rfl
@[simp] theorem State.drawn_sites : (s.drawn).sites = s.sites := rfl
@[simp] theorem State.drawn_cal : (s.drawn).cal = s.cal := rfl
@[simp] theorem State.drawn_pass : (s.drawn).pass = s.pass := rfl
@[simp] theorem State.drawn_ret : (s.drawn).ret = s.ret := rfl
@[simp] theorem State.drawn_notice : (s.drawn).notice = s.notice := rfl
@[simp] theorem State.drawn_out : (s.drawn).out = s.out := rfl
@[simp] theorem State.drawn_draws : (s.drawn).draws = s.draws + 1 := rfl
@[simp] theorem State.drawn_pending : (s.drawn).pending = s.pending := rfl
@[simp] theorem State.drawnBy_link (s : State) (n : Nat) : (s.drawnBy n).link = s.link := rfl
@[simp] theorem State.drawnBy_chainPos (s : State) (n : Nat) : (s.drawnBy n).chainPos = s.chainPos := rfl
@[simp] theorem State.drawnBy_cause (s : State) (n : Nat) : (s.drawnBy n).cause = s.cause := rfl
@[simp] theorem State.drawnBy_revision (s : State) (n : Nat) : (s.drawnBy n).revision = s.revision := rfl
@[simp] theorem State.drawnBy_tables (s : State) (n : Nat) : (s.drawnBy n).tables = s.tables := rfl
@[simp] theorem State.drawnBy_expander (s : State) (n : Nat) : (s.drawnBy n).expander = s.expander := rfl
@[simp] theorem State.drawnBy_sites (s : State) (n : Nat) : (s.drawnBy n).sites = s.sites := rfl
@[simp] theorem State.drawnBy_cal (s : State) (n : Nat) : (s.drawnBy n).cal = s.cal := rfl
@[simp] theorem State.drawnBy_pass (s : State) (n : Nat) : (s.drawnBy n).pass = s.pass := rfl
@[simp] theorem State.drawnBy_ret (s : State) (n : Nat) : (s.drawnBy n).ret = s.ret := rfl
@[simp] theorem State.drawnBy_notice (s : State) (n : Nat) : (s.drawnBy n).notice = s.notice := rfl
@[simp] theorem State.drawnBy_out (s : State) (n : Nat) : (s.drawnBy n).out = s.out := rfl
@[simp] theorem State.drawnBy_draws (s : State) (n : Nat) : (s.drawnBy n).draws = s.draws + n := rfl
@[simp] theorem State.drawnBy_pending (s : State) (n : Nat) : (s.drawnBy n).pending = s.pending := rfl
@[simp] theorem State.drawnBy_drawnBy (s : State) (m n : Nat) : (s.drawnBy m).drawnBy n = s.drawnBy (m + n) := by
  simp [State.drawnBy, Nat.add_assoc]
@[simp] theorem State.drawAt_drawnBy (s : State) (n k : Nat) : (s.drawnBy n).drawAt k = s.drawAt (n + k) := by
  simp [State.drawnBy, State.drawAt, Nat.add_assoc]

@[simp] theorem State.send_link (i : SiteNo) (c : SiteCommand) : (s.send i c).link = s.link := rfl
@[simp] theorem State.send_chainPos (i : SiteNo) (c : SiteCommand) : (s.send i c).chainPos = s.chainPos := rfl
@[simp] theorem State.send_cause (i : SiteNo) (c : SiteCommand) : (s.send i c).cause = s.cause := rfl
@[simp] theorem State.send_revision (i : SiteNo) (c : SiteCommand) : (s.send i c).revision = s.revision := rfl
@[simp] theorem State.send_tables (i : SiteNo) (c : SiteCommand) : (s.send i c).tables = s.tables := rfl
@[simp] theorem State.send_expander (i : SiteNo) (c : SiteCommand) : (s.send i c).expander = s.expander := rfl
@[simp] theorem State.send_sites (i : SiteNo) (c : SiteCommand) : (s.send i c).sites = s.sites.set i { s.site i with command := c } := rfl
@[simp] theorem State.send_cal (i : SiteNo) (c : SiteCommand) : (s.send i c).cal = s.cal := rfl
@[simp] theorem State.send_pass (i : SiteNo) (c : SiteCommand) : (s.send i c).pass = s.pass := rfl
@[simp] theorem State.send_ret (i : SiteNo) (c : SiteCommand) : (s.send i c).ret = s.ret := rfl
@[simp] theorem State.send_notice (i : SiteNo) (c : SiteCommand) : (s.send i c).notice = s.notice := rfl
@[simp] theorem State.send_out (i : SiteNo) (c : SiteCommand) : (s.send i c).out = { s.out with commands := s.out.commands ++ [(i, c)] } := rfl
@[simp] theorem State.send_draws (i : SiteNo) (c : SiteCommand) : (s.send i c).draws = s.draws := rfl
@[simp] theorem State.send_pending (i : SiteNo) (c : SiteCommand) : (s.send i c).pending = s.pending := rfl

@[simp] theorem State.enqueueReport_link (f : Frame) : (s.enqueueReport f).link = s.link := rfl
@[simp] theorem State.enqueueReport_chainPos (f : Frame) : (s.enqueueReport f).chainPos = s.chainPos := rfl
@[simp] theorem State.enqueueReport_cause (f : Frame) : (s.enqueueReport f).cause = s.cause := rfl
@[simp] theorem State.enqueueReport_revision (f : Frame) : (s.enqueueReport f).revision = s.revision := rfl
@[simp] theorem State.enqueueReport_tables (f : Frame) : (s.enqueueReport f).tables = s.tables := rfl
@[simp] theorem State.enqueueReport_expander (f : Frame) : (s.enqueueReport f).expander = s.expander := rfl
@[simp] theorem State.enqueueReport_sites (f : Frame) : (s.enqueueReport f).sites = s.sites := rfl
@[simp] theorem State.enqueueReport_cal (f : Frame) : (s.enqueueReport f).cal = s.cal := rfl
@[simp] theorem State.enqueueReport_pass (f : Frame) : (s.enqueueReport f).pass = s.pass := rfl
@[simp] theorem State.enqueueReport_ret (f : Frame) : (s.enqueueReport f).ret = { s.ret with reports := s.ret.reports ++ [f] } := rfl
@[simp] theorem State.enqueueReport_notice (f : Frame) : (s.enqueueReport f).notice = s.notice := rfl
@[simp] theorem State.enqueueReport_out (f : Frame) : (s.enqueueReport f).out = s.out := rfl
@[simp] theorem State.enqueueReport_draws (f : Frame) : (s.enqueueReport f).draws = s.draws := rfl
@[simp] theorem State.enqueueReport_pending (f : Frame) : (s.enqueueReport f).pending = s.pending := rfl

@[simp] theorem State.enqueueResponse_link (f : Frame) : (s.enqueueResponse f).link = s.link := rfl
@[simp] theorem State.enqueueResponse_chainPos (f : Frame) : (s.enqueueResponse f).chainPos = s.chainPos := rfl
@[simp] theorem State.enqueueResponse_cause (f : Frame) : (s.enqueueResponse f).cause = s.cause := rfl
@[simp] theorem State.enqueueResponse_revision (f : Frame) : (s.enqueueResponse f).revision = s.revision := rfl
@[simp] theorem State.enqueueResponse_tables (f : Frame) : (s.enqueueResponse f).tables = s.tables := rfl
@[simp] theorem State.enqueueResponse_expander (f : Frame) : (s.enqueueResponse f).expander = s.expander := rfl
@[simp] theorem State.enqueueResponse_sites (f : Frame) : (s.enqueueResponse f).sites = s.sites := rfl
@[simp] theorem State.enqueueResponse_cal (f : Frame) : (s.enqueueResponse f).cal = s.cal := rfl
@[simp] theorem State.enqueueResponse_pass (f : Frame) : (s.enqueueResponse f).pass = s.pass := rfl
@[simp] theorem State.enqueueResponse_ret (f : Frame) : (s.enqueueResponse f).ret = { s.ret with responses := s.ret.responses ++ [f] } := rfl
@[simp] theorem State.enqueueResponse_notice (f : Frame) : (s.enqueueResponse f).notice = s.notice := rfl
@[simp] theorem State.enqueueResponse_out (f : Frame) : (s.enqueueResponse f).out = s.out := rfl
@[simp] theorem State.enqueueResponse_draws (f : Frame) : (s.enqueueResponse f).draws = s.draws := rfl
@[simp] theorem State.enqueueResponse_pending (f : Frame) : (s.enqueueResponse f).pending = s.pending := rfl

@[simp] theorem State.answer_link (c : Ctl) (code : Byte) (st : Status) (data : List Byte) : (s.answer c code st data).link = s.link := rfl
@[simp] theorem State.answer_chainPos (c : Ctl) (code : Byte) (st : Status) (data : List Byte) : (s.answer c code st data).chainPos = s.chainPos := rfl
@[simp] theorem State.answer_cause (c : Ctl) (code : Byte) (st : Status) (data : List Byte) : (s.answer c code st data).cause = s.cause := rfl
@[simp] theorem State.answer_revision (c : Ctl) (code : Byte) (st : Status) (data : List Byte) : (s.answer c code st data).revision = s.revision := rfl
@[simp] theorem State.answer_tables (c : Ctl) (code : Byte) (st : Status) (data : List Byte) : (s.answer c code st data).tables = s.tables := rfl
@[simp] theorem State.answer_expander (c : Ctl) (code : Byte) (st : Status) (data : List Byte) : (s.answer c code st data).expander = s.expander := rfl
@[simp] theorem State.answer_sites (c : Ctl) (code : Byte) (st : Status) (data : List Byte) : (s.answer c code st data).sites = s.sites := rfl
@[simp] theorem State.answer_cal (c : Ctl) (code : Byte) (st : Status) (data : List Byte) : (s.answer c code st data).cal = s.cal := rfl
@[simp] theorem State.answer_pass (c : Ctl) (code : Byte) (st : Status) (data : List Byte) : (s.answer c code st data).pass = s.pass := rfl
@[simp] theorem State.answer_ret (c : Ctl) (code : Byte) (st : Status) (data : List Byte) : (s.answer c code st data).ret = { s.ret with responses := s.ret.responses ++ [s.responseFrame c code st false data] } := rfl
@[simp] theorem State.answer_notice (c : Ctl) (code : Byte) (st : Status) (data : List Byte) : (s.answer c code st data).notice = s.notice := rfl
@[simp] theorem State.answer_out (c : Ctl) (code : Byte) (st : Status) (data : List Byte) : (s.answer c code st data).out = s.out := rfl
@[simp] theorem State.answer_draws (c : Ctl) (code : Byte) (st : Status) (data : List Byte) : (s.answer c code st data).draws = s.draws := rfl
@[simp] theorem State.answer_pending (c : Ctl) (code : Byte) (st : Status) (data : List Byte) : (s.answer c code st data).pending = s.pending := rfl

@[simp] theorem State.clearNoticeFlags_link (b : Byte) : (s.clearNoticeFlags b).link = s.link := rfl
@[simp] theorem State.clearNoticeFlags_chainPos (b : Byte) : (s.clearNoticeFlags b).chainPos = s.chainPos := rfl
@[simp] theorem State.clearNoticeFlags_cause (b : Byte) : (s.clearNoticeFlags b).cause = s.cause := rfl
@[simp] theorem State.clearNoticeFlags_revision (b : Byte) : (s.clearNoticeFlags b).revision = s.revision := rfl
@[simp] theorem State.clearNoticeFlags_tables (b : Byte) : (s.clearNoticeFlags b).tables = s.tables := rfl
@[simp] theorem State.clearNoticeFlags_expander (b : Byte) : (s.clearNoticeFlags b).expander = s.expander := rfl
@[simp] theorem State.clearNoticeFlags_sites (b : Byte) : (s.clearNoticeFlags b).sites = s.sites := rfl
@[simp] theorem State.clearNoticeFlags_cal (b : Byte) : (s.clearNoticeFlags b).cal = s.cal := rfl
@[simp] theorem State.clearNoticeFlags_pass (b : Byte) : (s.clearNoticeFlags b).pass = s.pass := rfl
@[simp] theorem State.clearNoticeFlags_ret (b : Byte) : (s.clearNoticeFlags b).ret = s.ret := rfl
@[simp] theorem State.clearNoticeFlags_notice (b : Byte) : (s.clearNoticeFlags b).notice = { s.notice with flags := s.notice.flags &&& ~~~ b } := rfl
@[simp] theorem State.clearNoticeFlags_out (b : Byte) : (s.clearNoticeFlags b).out = s.out := rfl
@[simp] theorem State.clearNoticeFlags_draws (b : Byte) : (s.clearNoticeFlags b).draws = s.draws := rfl
@[simp] theorem State.clearNoticeFlags_pending (b : Byte) : (s.clearNoticeFlags b).pending = s.pending := rfl

@[simp] theorem State.setPhase_link (i : SiteNo) (p : Phase) : (s.setPhase i p).link = s.link := rfl
@[simp] theorem State.setPhase_chainPos (i : SiteNo) (p : Phase) : (s.setPhase i p).chainPos = s.chainPos := rfl
@[simp] theorem State.setPhase_cause (i : SiteNo) (p : Phase) : (s.setPhase i p).cause = s.cause := rfl
@[simp] theorem State.setPhase_revision (i : SiteNo) (p : Phase) : (s.setPhase i p).revision = s.revision := rfl
@[simp] theorem State.setPhase_tables (i : SiteNo) (p : Phase) : (s.setPhase i p).tables = { s.tables with trim := s.tables.trim.set i { s.trim i with phase := p } } := rfl
@[simp] theorem State.setPhase_expander (i : SiteNo) (p : Phase) : (s.setPhase i p).expander = s.expander := rfl
@[simp] theorem State.setPhase_sites (i : SiteNo) (p : Phase) : (s.setPhase i p).sites = s.sites := rfl
@[simp] theorem State.setPhase_cal (i : SiteNo) (p : Phase) : (s.setPhase i p).cal = s.cal := rfl
@[simp] theorem State.setPhase_pass (i : SiteNo) (p : Phase) : (s.setPhase i p).pass = s.pass := rfl
@[simp] theorem State.setPhase_ret (i : SiteNo) (p : Phase) : (s.setPhase i p).ret = s.ret := rfl
@[simp] theorem State.setPhase_notice (i : SiteNo) (p : Phase) : (s.setPhase i p).notice = s.notice := rfl
@[simp] theorem State.setPhase_out (i : SiteNo) (p : Phase) : (s.setPhase i p).out = s.out := rfl
@[simp] theorem State.setPhase_draws (i : SiteNo) (p : Phase) : (s.setPhase i p).draws = s.draws := rfl
@[simp] theorem State.setPhase_pending (i : SiteNo) (p : Phase) : (s.setPhase i p).pending = s.pending := rfl

@[simp] theorem State.setLane_link (i : SiteNo) (l : LaneState) : (s.setLane i l).link = s.link := rfl
@[simp] theorem State.setLane_chainPos (i : SiteNo) (l : LaneState) : (s.setLane i l).chainPos = s.chainPos := rfl
@[simp] theorem State.setLane_cause (i : SiteNo) (l : LaneState) : (s.setLane i l).cause = s.cause := rfl
@[simp] theorem State.setLane_revision (i : SiteNo) (l : LaneState) : (s.setLane i l).revision = s.revision := rfl
@[simp] theorem State.setLane_tables (i : SiteNo) (l : LaneState) : (s.setLane i l).tables = s.tables := rfl
@[simp] theorem State.setLane_expander (i : SiteNo) (l : LaneState) : (s.setLane i l).expander = s.expander := rfl
@[simp] theorem State.setLane_sites (i : SiteNo) (l : LaneState) : (s.setLane i l).sites = s.sites.set i { s.site i with lane := l } := rfl
@[simp] theorem State.setLane_cal (i : SiteNo) (l : LaneState) : (s.setLane i l).cal = s.cal := rfl
@[simp] theorem State.setLane_pass (i : SiteNo) (l : LaneState) : (s.setLane i l).pass = s.pass := rfl
@[simp] theorem State.setLane_ret (i : SiteNo) (l : LaneState) : (s.setLane i l).ret = s.ret := rfl
@[simp] theorem State.setLane_notice (i : SiteNo) (l : LaneState) : (s.setLane i l).notice = s.notice := rfl
@[simp] theorem State.setLane_out (i : SiteNo) (l : LaneState) : (s.setLane i l).out = s.out := rfl
@[simp] theorem State.setLane_draws (i : SiteNo) (l : LaneState) : (s.setLane i l).draws = s.draws := rfl
@[simp] theorem State.setLane_pending (i : SiteNo) (l : LaneState) : (s.setLane i l).pending = s.pending := rfl

@[simp] theorem State.setCondition_link (i : SiteNo) (c : Condition) : (s.setCondition i c).link = s.link := rfl
@[simp] theorem State.setCondition_chainPos (i : SiteNo) (c : Condition) : (s.setCondition i c).chainPos = s.chainPos := rfl
@[simp] theorem State.setCondition_cause (i : SiteNo) (c : Condition) : (s.setCondition i c).cause = s.cause := rfl
@[simp] theorem State.setCondition_revision (i : SiteNo) (c : Condition) : (s.setCondition i c).revision = s.revision := rfl
@[simp] theorem State.setCondition_tables (i : SiteNo) (c : Condition) : (s.setCondition i c).tables = s.tables := rfl
@[simp] theorem State.setCondition_expander (i : SiteNo) (c : Condition) : (s.setCondition i c).expander = s.expander := rfl
@[simp] theorem State.setCondition_sites (i : SiteNo) (c : Condition) : (s.setCondition i c).sites = s.sites.set i { s.site i with condition := c } := rfl
@[simp] theorem State.setCondition_cal (i : SiteNo) (c : Condition) : (s.setCondition i c).cal = s.cal := rfl
@[simp] theorem State.setCondition_pass (i : SiteNo) (c : Condition) : (s.setCondition i c).pass = s.pass := rfl
@[simp] theorem State.setCondition_ret (i : SiteNo) (c : Condition) : (s.setCondition i c).ret = s.ret := rfl
@[simp] theorem State.setCondition_notice (i : SiteNo) (c : Condition) : (s.setCondition i c).notice = s.notice := rfl
@[simp] theorem State.setCondition_out (i : SiteNo) (c : Condition) : (s.setCondition i c).out = s.out := rfl
@[simp] theorem State.setCondition_draws (i : SiteNo) (c : Condition) : (s.setCondition i c).draws = s.draws := rfl
@[simp] theorem State.setCondition_pending (i : SiteNo) (c : Condition) : (s.setCondition i c).pending = s.pending := rfl

@[simp] theorem State.releaseSpare_link : (s.releaseSpare).link = s.link := rfl
@[simp] theorem State.releaseSpare_chainPos : (s.releaseSpare).chainPos = s.chainPos := rfl
@[simp] theorem State.releaseSpare_cause : (s.releaseSpare).cause = s.cause := rfl
@[simp] theorem State.releaseSpare_revision : (s.releaseSpare).revision = s.revision := rfl
@[simp] theorem State.releaseSpare_tables : (s.releaseSpare).tables = s.tables := rfl
@[simp] theorem State.releaseSpare_expander : (s.releaseSpare).expander = s.expander := rfl
@[simp] theorem State.releaseSpare_sites : (s.releaseSpare).sites = s.sites := rfl
@[simp] theorem State.releaseSpare_cal : (s.releaseSpare).cal = { s.cal with
      spare := .idle, target := none, found := none, working := none, attempts := 0
      scan := {}, words := 0, run := 0, soakLength := 0, boundary := none } := rfl
@[simp] theorem State.releaseSpare_pass : (s.releaseSpare).pass = s.pass := rfl
@[simp] theorem State.releaseSpare_ret : (s.releaseSpare).ret = s.ret := rfl
@[simp] theorem State.releaseSpare_notice : (s.releaseSpare).notice = s.notice := rfl
@[simp] theorem State.releaseSpare_out : (s.releaseSpare).out = s.out := rfl
@[simp] theorem State.releaseSpare_draws : (s.releaseSpare).draws = s.draws := rfl
@[simp] theorem State.releaseSpare_pending : (s.releaseSpare).pending = s.pending := rfl

@[simp] theorem State.startRun_link (i : SiteNo) : (s.startRun i).link = s.link := rfl
@[simp] theorem State.startRun_chainPos (i : SiteNo) : (s.startRun i).chainPos = s.chainPos := rfl
@[simp] theorem State.startRun_cause (i : SiteNo) : (s.startRun i).cause = s.cause := rfl
@[simp] theorem State.startRun_revision (i : SiteNo) : (s.startRun i).revision = s.revision := rfl
@[simp] theorem State.startRun_tables (i : SiteNo) : (s.startRun i).tables = s.tables := rfl
@[simp] theorem State.startRun_expander (i : SiteNo) : (s.startRun i).expander = s.expander := rfl
@[simp] theorem State.startRun_sites (i : SiteNo) : (s.startRun i).sites = s.sites := rfl
@[simp] theorem State.startRun_cal (i : SiteNo) : (s.startRun i).cal = { s.cal with
      spare := .training, target := some i, found := none, working := none, attempts := 0
      scan := {}, words := 0, run := 0, soakLength := 0, boundary := none } := rfl
@[simp] theorem State.startRun_pass (i : SiteNo) : (s.startRun i).pass = s.pass := rfl
@[simp] theorem State.startRun_ret (i : SiteNo) : (s.startRun i).ret = s.ret := rfl
@[simp] theorem State.startRun_notice (i : SiteNo) : (s.startRun i).notice = s.notice := rfl
@[simp] theorem State.startRun_out (i : SiteNo) : (s.startRun i).out = s.out := rfl
@[simp] theorem State.startRun_draws (i : SiteNo) : (s.startRun i).draws = s.draws := rfl
@[simp] theorem State.startRun_pending (i : SiteNo) : (s.startRun i).pending = s.pending := rfl

@[simp] theorem State.beginOffline_link (i : SiteNo) : (s.beginOffline i).link = s.link := rfl
@[simp] theorem State.beginOffline_chainPos (i : SiteNo) : (s.beginOffline i).chainPos = s.chainPos := rfl
@[simp] theorem State.beginOffline_cause (i : SiteNo) : (s.beginOffline i).cause = s.cause := rfl
@[simp] theorem State.beginOffline_revision (i : SiteNo) : (s.beginOffline i).revision = s.revision := rfl
@[simp] theorem State.beginOffline_tables (i : SiteNo) : (s.beginOffline i).tables = s.tables := rfl
@[simp] theorem State.beginOffline_expander (i : SiteNo) : (s.beginOffline i).expander = s.expander := rfl
@[simp] theorem State.beginOffline_sites (i : SiteNo) : (s.beginOffline i).sites = s.sites.set i { s.site i with lane := .offlineCal } := rfl
@[simp] theorem State.beginOffline_cal (i : SiteNo) : (s.beginOffline i).cal = { s.cal with
      spare := .standingIn, working := none, scan := {}, words := 0, run := 0, soakLength := 0, boundary := none } := rfl
@[simp] theorem State.beginOffline_pass (i : SiteNo) : (s.beginOffline i).pass = s.pass := rfl
@[simp] theorem State.beginOffline_ret (i : SiteNo) : (s.beginOffline i).ret = s.ret := rfl
@[simp] theorem State.beginOffline_notice (i : SiteNo) : (s.beginOffline i).notice = s.notice := rfl
@[simp] theorem State.beginOffline_out (i : SiteNo) : (s.beginOffline i).out = s.out := rfl
@[simp] theorem State.beginOffline_draws (i : SiteNo) : (s.beginOffline i).draws = s.draws := rfl
@[simp] theorem State.beginOffline_pending (i : SiteNo) : (s.beginOffline i).pending = s.pending := rfl

@[simp] theorem State.scanWords_link (w : List WordPair) : (s.scanWords w).link = s.link := rfl
@[simp] theorem State.scanWords_chainPos (w : List WordPair) : (s.scanWords w).chainPos = s.chainPos := rfl
@[simp] theorem State.scanWords_cause (w : List WordPair) : (s.scanWords w).cause = s.cause := rfl
@[simp] theorem State.scanWords_revision (w : List WordPair) : (s.scanWords w).revision = s.revision := rfl
@[simp] theorem State.scanWords_tables (w : List WordPair) : (s.scanWords w).tables = s.tables := rfl
@[simp] theorem State.scanWords_expander (w : List WordPair) : (s.scanWords w).expander = s.expander := rfl
@[simp] theorem State.scanWords_sites (w : List WordPair) : (s.scanWords w).sites = s.sites := rfl
@[simp] theorem State.scanWords_cal (w : List WordPair) : (s.scanWords w).cal = { s.cal with scan := w.foldl Scan.compare s.cal.scan } := rfl
@[simp] theorem State.scanWords_pass (w : List WordPair) : (s.scanWords w).pass = s.pass := rfl
@[simp] theorem State.scanWords_ret (w : List WordPair) : (s.scanWords w).ret = s.ret := rfl
@[simp] theorem State.scanWords_notice (w : List WordPair) : (s.scanWords w).notice = s.notice := rfl
@[simp] theorem State.scanWords_out (w : List WordPair) : (s.scanWords w).out = s.out := rfl
@[simp] theorem State.scanWords_draws (w : List WordPair) : (s.scanWords w).draws = s.draws := rfl
@[simp] theorem State.scanWords_pending (w : List WordPair) : (s.scanWords w).pending = s.pending := rfl

@[simp] theorem State.holdRelease_link (i : SiteNo) : (s.holdRelease i).link = s.link := rfl
@[simp] theorem State.holdRelease_chainPos (i : SiteNo) : (s.holdRelease i).chainPos = s.chainPos := rfl
@[simp] theorem State.holdRelease_cause (i : SiteNo) : (s.holdRelease i).cause = s.cause := rfl
@[simp] theorem State.holdRelease_revision (i : SiteNo) : (s.holdRelease i).revision = s.revision := rfl
@[simp] theorem State.holdRelease_tables (i : SiteNo) : (s.holdRelease i).tables = s.tables := rfl
@[simp] theorem State.holdRelease_expander (i : SiteNo) : (s.holdRelease i).expander = s.expander := rfl
@[simp] theorem State.holdRelease_sites (i : SiteNo) : (s.holdRelease i).sites = s.sites.set i { s.site i with hold := .free } := rfl
@[simp] theorem State.holdRelease_cal (i : SiteNo) : (s.holdRelease i).cal = s.cal := rfl
@[simp] theorem State.holdRelease_pass (i : SiteNo) : (s.holdRelease i).pass = s.pass := rfl
@[simp] theorem State.holdRelease_ret (i : SiteNo) : (s.holdRelease i).ret = s.ret := rfl
@[simp] theorem State.holdRelease_notice (i : SiteNo) : (s.holdRelease i).notice = s.notice := rfl
@[simp] theorem State.holdRelease_out (i : SiteNo) : (s.holdRelease i).out = s.out := rfl
@[simp] theorem State.holdRelease_draws (i : SiteNo) : (s.holdRelease i).draws = s.draws := rfl
@[simp] theorem State.holdRelease_pending (i : SiteNo) : (s.holdRelease i).pending = s.pending := rfl

@[simp] theorem State.laneError_link (i : SiteNo) : (s.laneError i).link = s.link := rfl
@[simp] theorem State.laneError_chainPos (i : SiteNo) : (s.laneError i).chainPos = s.chainPos := rfl
@[simp] theorem State.laneError_cause (i : SiteNo) : (s.laneError i).cause = s.cause := rfl
@[simp] theorem State.laneError_revision (i : SiteNo) : (s.laneError i).revision = s.revision := rfl
@[simp] theorem State.laneError_tables (i : SiteNo) : (s.laneError i).tables = s.tables := rfl
@[simp] theorem State.laneError_expander (i : SiteNo) : (s.laneError i).expander = s.expander := rfl
@[simp] theorem State.laneError_sites (i : SiteNo) : (s.laneError i).sites = s.sites.set i { s.site i with laneErrors := satAdd (s.site i).laneErrors 1 } := rfl
@[simp] theorem State.laneError_cal (i : SiteNo) : (s.laneError i).cal = s.cal := rfl
@[simp] theorem State.laneError_pass (i : SiteNo) : (s.laneError i).pass = s.pass := rfl
@[simp] theorem State.laneError_ret (i : SiteNo) : (s.laneError i).ret = s.ret := rfl
@[simp] theorem State.laneError_notice (i : SiteNo) : (s.laneError i).notice = s.notice := rfl
@[simp] theorem State.laneError_out (i : SiteNo) : (s.laneError i).out = s.out := rfl
@[simp] theorem State.laneError_draws (i : SiteNo) : (s.laneError i).draws = s.draws := rfl
@[simp] theorem State.laneError_pending (i : SiteNo) : (s.laneError i).pending = s.pending := rfl

@[simp] theorem State.stray_link (i : SiteNo) : (s.stray i).link = s.link := rfl
@[simp] theorem State.stray_chainPos (i : SiteNo) : (s.stray i).chainPos = s.chainPos := rfl
@[simp] theorem State.stray_cause (i : SiteNo) : (s.stray i).cause = s.cause := rfl
@[simp] theorem State.stray_revision (i : SiteNo) : (s.stray i).revision = s.revision := rfl
@[simp] theorem State.stray_tables (i : SiteNo) : (s.stray i).tables = s.tables := rfl
@[simp] theorem State.stray_expander (i : SiteNo) : (s.stray i).expander = s.expander := rfl
@[simp] theorem State.stray_sites (i : SiteNo) : (s.stray i).sites = s.sites.set i { s.site i with counts := { (s.site i).counts with strays := satAdd (s.site i).counts.strays 1 } } := rfl
@[simp] theorem State.stray_cal (i : SiteNo) : (s.stray i).cal = s.cal := rfl
@[simp] theorem State.stray_pass (i : SiteNo) : (s.stray i).pass = s.pass := rfl
@[simp] theorem State.stray_ret (i : SiteNo) : (s.stray i).ret = s.ret := rfl
@[simp] theorem State.stray_notice (i : SiteNo) : (s.stray i).notice = s.notice := rfl
@[simp] theorem State.stray_out (i : SiteNo) : (s.stray i).out = s.out := rfl
@[simp] theorem State.stray_draws (i : SiteNo) : (s.stray i).draws = s.draws := rfl
@[simp] theorem State.stray_pending (i : SiteNo) : (s.stray i).pending = s.pending := rfl

@[simp] theorem State.ageAll_link : (s.ageAll).link = s.link := rfl
@[simp] theorem State.ageAll_chainPos : (s.ageAll).chainPos = s.chainPos := rfl
@[simp] theorem State.ageAll_cause : (s.ageAll).cause = s.cause := rfl
@[simp] theorem State.ageAll_revision : (s.ageAll).revision = s.revision := rfl
@[simp] theorem State.ageAll_tables : (s.ageAll).tables = s.tables := rfl
@[simp] theorem State.ageAll_expander : (s.ageAll).expander = s.expander := rfl
@[simp] theorem State.ageAll_sites : (s.ageAll).sites = mapVector (fun x : Site => { x with queue := ageQueue x.queue }) s.sites := rfl
@[simp] theorem State.ageAll_cal : (s.ageAll).cal = s.cal := rfl
@[simp] theorem State.ageAll_pass : (s.ageAll).pass = s.pass := rfl
@[simp] theorem State.ageAll_ret : (s.ageAll).ret = s.ret := rfl
@[simp] theorem State.ageAll_notice : (s.ageAll).notice = s.notice := rfl
@[simp] theorem State.ageAll_out : (s.ageAll).out = s.out := rfl
@[simp] theorem State.ageAll_draws : (s.ageAll).draws = s.draws := rfl
@[simp] theorem State.ageAll_pending : (s.ageAll).pending = s.pending := rfl

@[simp] theorem State.forward_link (f : Frame) (a : Arrival) : (s.forward f a).link = s.link := rfl
@[simp] theorem State.forward_chainPos (f : Frame) (a : Arrival) : (s.forward f a).chainPos = s.chainPos := rfl
@[simp] theorem State.forward_cause (f : Frame) (a : Arrival) : (s.forward f a).cause = s.cause := rfl
@[simp] theorem State.forward_revision (f : Frame) (a : Arrival) : (s.forward f a).revision = s.revision := rfl
@[simp] theorem State.forward_tables (f : Frame) (a : Arrival) : (s.forward f a).tables = s.tables := rfl
@[simp] theorem State.forward_expander (f : Frame) (a : Arrival) : (s.forward f a).expander = s.expander := rfl
@[simp] theorem State.forward_sites (f : Frame) (a : Arrival) : (s.forward f a).sites = s.sites := rfl
@[simp] theorem State.forward_cal (f : Frame) (a : Arrival) : (s.forward f a).cal = s.cal := rfl
@[simp] theorem State.forward_pass (f : Frame) (a : Arrival) : (s.forward f a).pass = s.pass := rfl
@[simp] theorem State.forward_ret (f : Frame) (a : Arrival) : (s.forward f a).ret = s.ret := rfl
@[simp] theorem State.forward_notice (f : Frame) (a : Arrival) : (s.forward f a).notice = s.notice := rfl
@[simp] theorem State.forward_out (f : Frame) (a : Arrival) : (s.forward f a).out = { s.out with down := some (s.outgoing f a) } := rfl
@[simp] theorem State.forward_draws (f : Frame) (a : Arrival) : (s.forward f a).draws = s.draws := rfl
@[simp] theorem State.forward_pending (f : Frame) (a : Arrival) : (s.forward f a).pending = s.pending := rfl

@[simp] theorem State.exercise_link (seed : Half) (l : List Byte) : (s.exercise seed l).link = { s.link with exerciseErrors := satAdd s.link.exerciseErrors (exerciseErrorCount seed l) } := rfl
@[simp] theorem State.exercise_chainPos (seed : Half) (l : List Byte) : (s.exercise seed l).chainPos = s.chainPos := rfl
@[simp] theorem State.exercise_cause (seed : Half) (l : List Byte) : (s.exercise seed l).cause = s.cause := rfl
@[simp] theorem State.exercise_revision (seed : Half) (l : List Byte) : (s.exercise seed l).revision = s.revision := rfl
@[simp] theorem State.exercise_tables (seed : Half) (l : List Byte) : (s.exercise seed l).tables = s.tables := rfl
@[simp] theorem State.exercise_expander (seed : Half) (l : List Byte) : (s.exercise seed l).expander = s.expander := rfl
@[simp] theorem State.exercise_sites (seed : Half) (l : List Byte) : (s.exercise seed l).sites = s.sites := rfl
@[simp] theorem State.exercise_cal (seed : Half) (l : List Byte) : (s.exercise seed l).cal = s.cal := rfl
@[simp] theorem State.exercise_pass (seed : Half) (l : List Byte) : (s.exercise seed l).pass = s.pass := rfl
@[simp] theorem State.exercise_ret (seed : Half) (l : List Byte) : (s.exercise seed l).ret = s.ret := rfl
@[simp] theorem State.exercise_notice (seed : Half) (l : List Byte) : (s.exercise seed l).notice = s.notice := rfl
@[simp] theorem State.exercise_out (seed : Half) (l : List Byte) : (s.exercise seed l).out = s.out := rfl
@[simp] theorem State.exercise_draws (seed : Half) (l : List Byte) : (s.exercise seed l).draws = s.draws := rfl
@[simp] theorem State.exercise_pending (seed : Half) (l : List Byte) : (s.exercise seed l).pending = s.pending := rfl

@[simp] theorem State.transmit_link (f : Frame) : (s.transmit f).link = s.link := rfl
@[simp] theorem State.transmit_chainPos (f : Frame) : (s.transmit f).chainPos = s.chainPos := rfl
@[simp] theorem State.transmit_cause (f : Frame) : (s.transmit f).cause = s.cause := rfl
@[simp] theorem State.transmit_revision (f : Frame) : (s.transmit f).revision = s.revision := rfl
@[simp] theorem State.transmit_tables (f : Frame) : (s.transmit f).tables = s.tables := rfl
@[simp] theorem State.transmit_expander (f : Frame) : (s.transmit f).expander = s.expander := rfl
@[simp] theorem State.transmit_sites (f : Frame) : (s.transmit f).sites = s.sites := rfl
@[simp] theorem State.transmit_cal (f : Frame) : (s.transmit f).cal = s.cal := rfl
@[simp] theorem State.transmit_pass (f : Frame) : (s.transmit f).pass = s.pass := rfl
@[simp] theorem State.transmit_ret (f : Frame) : (s.transmit f).ret = s.ret := rfl
@[simp] theorem State.transmit_notice (f : Frame) : (s.transmit f).notice = s.notice := rfl
@[simp] theorem State.transmit_out (f : Frame) : (s.transmit f).out = { s.out with up := some f } := rfl
@[simp] theorem State.transmit_draws (f : Frame) : (s.transmit f).draws = s.draws := rfl
@[simp] theorem State.transmit_pending (f : Frame) : (s.transmit f).pending = s.pending := rfl

@[simp] theorem State.setTurn_link (d : Side) : (s.setTurn d).link = s.link := rfl
@[simp] theorem State.setTurn_chainPos (d : Side) : (s.setTurn d).chainPos = s.chainPos := rfl
@[simp] theorem State.setTurn_cause (d : Side) : (s.setTurn d).cause = s.cause := rfl
@[simp] theorem State.setTurn_revision (d : Side) : (s.setTurn d).revision = s.revision := rfl
@[simp] theorem State.setTurn_tables (d : Side) : (s.setTurn d).tables = s.tables := rfl
@[simp] theorem State.setTurn_expander (d : Side) : (s.setTurn d).expander = s.expander := rfl
@[simp] theorem State.setTurn_sites (d : Side) : (s.setTurn d).sites = s.sites := rfl
@[simp] theorem State.setTurn_cal (d : Side) : (s.setTurn d).cal = s.cal := rfl
@[simp] theorem State.setTurn_pass (d : Side) : (s.setTurn d).pass = s.pass := rfl
@[simp] theorem State.setTurn_ret (d : Side) : (s.setTurn d).ret = { s.ret with turn := d } := rfl
@[simp] theorem State.setTurn_notice (d : Side) : (s.setTurn d).notice = s.notice := rfl
@[simp] theorem State.setTurn_out (d : Side) : (s.setTurn d).out = s.out := rfl
@[simp] theorem State.setTurn_draws (d : Side) : (s.setTurn d).draws = s.draws := rfl
@[simp] theorem State.setTurn_pending (d : Side) : (s.setTurn d).pending = s.pending := rfl

@[simp] theorem State.closing_link : (s.closing).link = s.link := rfl
@[simp] theorem State.closing_chainPos : (s.closing).chainPos = s.chainPos := rfl
@[simp] theorem State.closing_cause : (s.closing).cause = s.cause := rfl
@[simp] theorem State.closing_revision : (s.closing).revision = s.revision := rfl
@[simp] theorem State.closing_tables : (s.closing).tables = s.tables := rfl
@[simp] theorem State.closing_expander : (s.closing).expander = s.expander := rfl
@[simp] theorem State.closing_sites : (s.closing).sites = s.sites := rfl
@[simp] theorem State.closing_cal : (s.closing).cal = s.cal := rfl
@[simp] theorem State.closing_pass : (s.closing).pass = { s.pass with state := .closing } := rfl
@[simp] theorem State.closing_ret : (s.closing).ret = s.ret := rfl
@[simp] theorem State.closing_notice : (s.closing).notice = s.notice := rfl
@[simp] theorem State.closing_out : (s.closing).out = s.out := rfl
@[simp] theorem State.closing_draws : (s.closing).draws = s.draws := rfl
@[simp] theorem State.closing_pending : (s.closing).pending = s.pending := rfl

@[simp] theorem State.openPass_link (n : Byte) : (s.openPass n).link = s.link := rfl
@[simp] theorem State.openPass_chainPos (n : Byte) : (s.openPass n).chainPos = s.chainPos := rfl
@[simp] theorem State.openPass_cause (n : Byte) : (s.openPass n).cause = s.cause := rfl
@[simp] theorem State.openPass_revision (n : Byte) : (s.openPass n).revision = s.revision := rfl
@[simp] theorem State.openPass_tables (n : Byte) : (s.openPass n).tables = s.tables := rfl
@[simp] theorem State.openPass_expander (n : Byte) : (s.openPass n).expander = { s.expander with last := 0, upper := 0, start := true } := rfl
@[simp] theorem State.openPass_sites (n : Byte) : (s.openPass n).sites = mapVector (fun x : Site => x.openPass s.tables.region) s.sites := rfl
@[simp] theorem State.openPass_cal (n : Byte) : (s.openPass n).cal = s.cal := rfl
@[simp] theorem State.openPass_pass (n : Byte) : (s.openPass n).pass = { state := .opened, number := n, summary := none } := rfl
@[simp] theorem State.openPass_ret (n : Byte) : (s.openPass n).ret = { s.ret with drops := 0 } := rfl
@[simp] theorem State.openPass_notice (n : Byte) : (s.openPass n).notice = s.notice := rfl
@[simp] theorem State.openPass_out (n : Byte) : (s.openPass n).out = s.out := rfl
@[simp] theorem State.openPass_draws (n : Byte) : (s.openPass n).draws = s.draws := rfl
@[simp] theorem State.openPass_pending (n : Byte) : (s.openPass n).pending = s.pending := rfl

@[simp] theorem State.responded_link (f : Frame) : (s.responded f).link = s.link := rfl
@[simp] theorem State.responded_chainPos (f : Frame) : (s.responded f).chainPos = s.chainPos := rfl
@[simp] theorem State.responded_cause (f : Frame) : (s.responded f).cause = s.cause := rfl
@[simp] theorem State.responded_revision (f : Frame) : (s.responded f).revision = s.revision := rfl
@[simp] theorem State.responded_tables (f : Frame) : (s.responded f).tables = s.tables := rfl
@[simp] theorem State.responded_expander (f : Frame) : (s.responded f).expander = s.expander := rfl
@[simp] theorem State.responded_sites (f : Frame) : (s.responded f).sites = s.sites := rfl
@[simp] theorem State.responded_cal (f : Frame) : (s.responded f).cal = s.cal := rfl
@[simp] theorem State.responded_pass (f : Frame) : (s.responded f).pass = s.pass := rfl
@[simp] theorem State.responded_ret (f : Frame) : (s.responded f).ret = { s.ret with responses := s.ret.responses ++ [f] } := rfl
@[simp] theorem State.responded_notice (f : Frame) : (s.responded f).notice = s.notice := rfl
@[simp] theorem State.responded_out (f : Frame) : (s.responded f).out = s.out := rfl
@[simp] theorem State.responded_draws (f : Frame) : (s.responded f).draws = s.draws := rfl
@[simp] theorem State.responded_pending (f : Frame) : (s.responded f).pending = s.pending := rfl

end Sys2Proof.Machine
end

