-- ==== Sys2Proof/Laws/Sites.lean ====
section
/-! SUPPORT. Reading one site after an update, and what an operation done for the sixteen sites in turn leaves at each of them. -/

namespace Sys2Proof.Machine

/-- The list of all sites names every site. -/
theorem mem_allSites (i : SiteNo) : i ∈ allSites := by revert i; decide

/-- The list of all sites names no site twice. -/
theorem allSites_nodup : allSites.Nodup := by decide

/-- The list of all regions names every region. -/
theorem mem_allRegions (g : RegionNo) : g ∈ allRegions := by revert g; decide

/-- The site just replaced reads as what replaced it. -/
@[simp] theorem State.site_setSite_self (s : State) (i : SiteNo) (x : Site) : (s.setSite i x).site i = x := by
  show (s.sites.set i x)[(i : Nat)] = x
  simp

/-- Every other site reads as before. -/
theorem State.site_setSite_ne (s : State) {i j : SiteNo} (x : Site) (h : j ≠ i) : (s.setSite i x).site j = s.site j := by
  have hv : (i : Nat) ≠ (j : Nat) := fun e => h (Fin.ext e.symm)
  show (s.sites.set i x)[(j : Nat)] = s.sites[(j : Nat)]
  exact Vector.getElem_set_ne i.isLt j.isLt hv

/-- A site after one site was replaced. -/
theorem State.site_setSite (s : State) (i j : SiteNo) (x : Site) :
    (s.setSite i x).site j = if j = i then x else s.site j := by
  by_cases h : j = i
  · subst h; simp
  · simp [h, State.site_setSite_ne s x h]

/-- Replacing a site by itself changes nothing. -/
@[simp] theorem State.setSite_site (s : State) (i : SiteNo) : s.setSite i (s.site i) = s := by
  simp [State.setSite, State.site, Vector.get]

/-- Of two replacements of one site the later stands. -/
@[simp] theorem State.setSite_setSite (s : State) (i : SiteNo) (x y : Site) : (s.setSite i x).setSite i y = s.setSite i y := by
  simp [State.setSite]

/-- The site changed by a function. -/
@[simp] theorem State.site_onSite_self (s : State) (i : SiteNo) (f : Site → Site) : (s.onSite i f).site i = f (s.site i) := by
  simp [State.onSite]

/-- Every other site reads as before. -/
theorem State.site_onSite_ne (s : State) {i j : SiteNo} (f : Site → Site) (h : j ≠ i) : (s.onSite i f).site j = s.site j :=
  s.site_setSite_ne _ h

/-- A site after one site was changed by a function. -/
theorem State.site_onSite (s : State) (i j : SiteNo) (f : Site → Site) :
    (s.onSite i f).site j = if j = i then f (s.site j) else s.site j := by
  by_cases h : j = i
  · subst h; simp
  · simp [h, State.site_onSite_ne s f h]

/-- A member of a vector changed by a function. -/
@[simp] theorem mapVector_get {α β : Type} {n : Nat} (f : α → β) (v : Vector α n) (i : Fin n) :
    (mapVector f v).get i = f (v.get i) := by
  show (mapVector f v)[(i : Nat)] = f v[(i : Nat)]
  simp [mapVector]

/-- Every site changed by one function. -/
@[simp] theorem State.site_onSites (s : State) (f : Site → Site) (i : SiteNo) : (s.onSites f).site i = f (s.site i) := by
  simp [State.site, State.onSites]

/-- Two states whose sites read alike have the same sites. -/
theorem sites_ext {v w : Vector Site 16} (h : ∀ i : SiteNo, v.get i = w.get i) : v = w := by
  apply Vector.ext
  intro i hi
  exact h ⟨i, hi⟩

/-- The site a command is put on the lane of holds that command, and is otherwise unchanged; every other site reads as before. -/
theorem State.site_send (s : State) (i j : SiteNo) (c : SiteCommand) :
    (s.send i c).site j = if j = i then { s.site j with command := c } else s.site j :=
  s.site_onSite i j fun x => { x with command := c }

/-- The updates that leave the sites alone leave each site alone. -/
theorem State.site_congr {s t : State} (h : t.sites = s.sites) (i : SiteNo) : t.site i = s.site i := by
  simp [State.site, h]

/-- An operation done over a list of sites, when one application at a site changes only that site, as a function of that site and of what the operation keeps: each listed site has the function applied, every other reads as before. `keep` is what the operation keeps. -/
theorem foldl_site {op : SiteNo → State → State} {f : SiteNo → Site → Site} {keep : State → Prop}
    (hkeep : ∀ i t, keep t → keep (op i t))
    (hop : ∀ i t j, keep t → (op i t).site j = if j = i then f i (t.site j) else t.site j) :
    ∀ (l : List SiteNo) (s : State) (j : SiteNo), l.Nodup → keep s →
      (l.foldl (fun s i => op i s) s).site j = if j ∈ l then f j (s.site j) else s.site j := by
  intro l
  induction l with
  | nil => intro s j _ _; simp
  | cons i l ih =>
    intro s j hl hs
    rw [List.foldl_cons, ih (op i s) j (List.nodup_cons.1 hl).2 (hkeep i s hs), hop i s j hs]
    by_cases hj : j = i
    · subst hj
      have : j ∉ l := (List.nodup_cons.1 hl).1
      simp [this]
    · simp [hj]

/-- An operation done for all sites in site order, each site changed as `foldl_site` says. -/
theorem forSites_site {op : SiteNo → State → State} {f : SiteNo → Site → Site} {keep : State → Prop}
    (hkeep : ∀ i t, keep t → keep (op i t))
    (hop : ∀ i t j, keep t → (op i t).site j = if j = i then f i (t.site j) else t.site j)
    {s : State} (hs : keep s) (j : SiteNo) : (forSites op s).site j = f j (s.site j) := by
  rw [forSites, foldl_site hkeep hop allSites s j allSites_nodup hs, if_pos (mem_allSites j)]

/-- What each application keeps, the operation done for all sites keeps. -/
theorem forSites_keeps {op : SiteNo → State → State} {P : State → Prop} (h : ∀ i t, P t → P (op i t)) {s : State}
    (hs : P s) : P (forSites op s) := by
  have : ∀ (l : List SiteNo) (t : State), P t → P (l.foldl (fun s i => op i s) t) := by
    intro l
    induction l with
    | nil => intro t ht; exact ht
    | cons i l ih => intro t ht; exact ih _ (h i t ht)
  exact this allSites s hs

/-- A reading that each application leaves as it is, the operation done for all sites leaves as it is. -/
theorem forSites_eq {α : Type} {op : SiteNo → State → State} (g : State → α) (h : ∀ i t, g (op i t) = g t) (s : State) :
    g (forSites op s) = g s :=
  forSites_keeps (P := fun t => g t = g s) (fun i t ht => (h i t).trans ht) rfl

/-- The counted total is nothing exactly when no site holds a counted entry. -/
theorem State.countedTotal_eq_zero (s : State) : s.countedTotal = 0 ↔ ∀ i : SiteNo, countedIn (s.site i).queue = 0 := by
  have h : ∀ (l : List SiteNo) (n : Nat), l.foldl (fun n i => n + countedIn (s.site i).queue) n = 0 ↔
      n = 0 ∧ ∀ i ∈ l, countedIn (s.site i).queue = 0 := by
    intro l
    induction l with
    | nil => intro n; simp
    | cons i l ih => intro n; rw [List.foldl_cons, ih]; simp [and_assoc]
  rw [State.countedTotal, h]
  simp [mem_allSites]

/-- A queue holds no counted entry exactly when every entry of it is uncounted. -/
theorem countedIn_eq_zero (q : List Entry) : countedIn q = 0 ↔ ∀ e ∈ q, e.counted = false := by
  simp [countedIn, List.countP_eq_zero]

/-- Ageing leaves the counted entries counted. -/
@[simp] theorem countedIn_ageQueue (q : List Entry) : countedIn (ageQueue q) = countedIn q := by
  simp [countedIn, ageQueue, List.countP_map, Function.comp_def]

/-- Ageing leaves the length of a queue. -/
@[simp] theorem ageQueue_length (q : List Entry) : (ageQueue q).length = q.length := by simp [ageQueue]

/-- Ageing leaves an empty queue empty, and only an empty one. -/
@[simp] theorem ageQueue_eq_nil (q : List Entry) : ageQueue q = [] ↔ q = [] := by simp [ageQueue]

end Sys2Proof.Machine
end

