-- ==== Sys2Proof/Laws/Reports.lean ====
section
/-! SUPPORT. Notices, summaries and the end of a drain: what each of these operations can do, once each, and what none of them touches. -/

namespace Sys2Proof.Machine

/-- Nothing differs but what notices, summaries and the end of a drain write: the pass state and summary position, the notice flags and the pending list, the report queue, the draw counter. -/
def ReportsOnly (s t : State) : Prop :=
  t = { s with
    pass := { s.pass with state := t.pass.state, summary := t.pass.summary }
    notice := { s.notice with flags := t.notice.flags, waiting := t.notice.waiting }
    ret := { s.ret with reports := t.ret.reports }
    draws := t.draws }

/-- A state differs from itself in nothing. -/
theorem ReportsOnly.rfl (s : State) : ReportsOnly s s := Eq.refl s

/-- Two such changes one after the other are one. -/
theorem ReportsOnly.trans {s t u : State} (h : ReportsOnly s t) (k : ReportsOnly t u) : ReportsOnly s u := by
  unfold ReportsOnly at h k ⊢
  rw [k, h]

/-- Such a change leaves every site alone. -/
theorem ReportsOnly.site {s t : State} (h : ReportsOnly s t) (i : SiteNo) : t.site i = s.site i := by
  unfold ReportsOnly at h; rw [h]; rfl

/-- Such a change leaves the command queue alone. -/
theorem ReportsOnly.pending {s t : State} (h : ReportsOnly s t) : t.pending = s.pending := by
  unfold ReportsOnly at h; rw [h]

/-- Such a change leaves the link alone. -/
theorem ReportsOnly.link {s t : State} (h : ReportsOnly s t) : t.link = s.link := by
  unfold ReportsOnly at h; rw [h]

/-- Such a change leaves the stored tables alone. -/
theorem ReportsOnly.tables {s t : State} (h : ReportsOnly s t) : t.tables = s.tables := by
  unfold ReportsOnly at h; rw [h]

/-- Such a change leaves calibration alone. -/
theorem ReportsOnly.cal {s t : State} (h : ReportsOnly s t) : t.cal = s.cal := by
  unfold ReportsOnly at h; rw [h]

/-- Such a change leaves the outputs alone. -/
theorem ReportsOnly.out {s t : State} (h : ReportsOnly s t) : t.out = s.out := by
  unfold ReportsOnly at h; rw [h]

/-- A report that joins the report queue. -/
theorem enqueueReport_only (s : State) (f : Frame) : ReportsOnly s (s.enqueueReport f) := Eq.refl _

/-- A notice that becomes due is enqueued, or absorbed by its entry on the pending list, or joins that list (R168). -/
theorem noticeDue_cases (s : State) (f : NoticeFlag) :
    (s.noticeDue f = s.enqueueReport (s.noticeFrame f) ∧ s.reportRoom = true ∧ s.summariesWaiting = false ∧ s.notice.waiting = []) ∨
    ((s.reportRoom = false ∨ s.summariesWaiting = true ∨ s.notice.waiting ≠ []) ∧
      ((s.noticeDue f = s ∧ f ∈ s.notice.waiting) ∨
       (s.noticeDue f = { s with notice := { s.notice with waiting := s.notice.waiting ++ [f] } } ∧ f ∉ s.notice.waiting))) := by
  unfold State.noticeDue
  split
  · rename_i h
    simp only [Bool.and_eq_true, Bool.not_eq_true', List.isEmpty_iff] at h
    exact .inl ⟨Eq.refl _, h.1.1, h.1.2, h.2⟩
  · rename_i h
    have hc : s.reportRoom = false ∨ s.summariesWaiting = true ∨ s.notice.waiting ≠ [] := by
      by_contra hn
      push Not at hn
      exact h (by simp [hn.1, hn.2.1, hn.2.2])
    split
    · rename_i hf; exact .inr ⟨hc, .inl ⟨Eq.refl _, hf⟩⟩
    · rename_i hf; exact .inr ⟨hc, .inr ⟨Eq.refl _, hf⟩⟩

/-- A notice that becomes due touches the pending list or the report queue and nothing else. -/
theorem noticeDue_only (s : State) (f : NoticeFlag) : ReportsOnly s (s.noticeDue f) := by
  unfold State.noticeDue
  split
  · exact enqueueReport_only s _
  · split
    · exact .rfl s
    · exact Eq.refl _

/-- A flag that is set already is left (R166). -/
theorem raiseFlag_of_set (s : State) (f : NoticeFlag) (h : bitOf s.notice.flags f.bit = true) : s.raiseFlag f = s := by
  simp [State.raiseFlag, h]

/-- A flag that is clear with its mask bit clear is set silently (R166). -/
theorem raiseFlag_of_silent (s : State) (f : NoticeFlag) (h : bitOf s.notice.flags f.bit = false)
    (hm : bitOf s.notice.mask f.bit = false) :
    s.raiseFlag f = { s with notice := { s.notice with flags := s.notice.flags ||| f.set } } := by
  simp [State.raiseFlag, h, hm]

/-- A flag that is clear with its mask bit set is set, and its notice becomes due (R166). -/
theorem raiseFlag_of_masked (s : State) (f : NoticeFlag) (h : bitOf s.notice.flags f.bit = false)
    (hm : bitOf s.notice.mask f.bit = true) :
    s.raiseFlag f =
      State.noticeDue { s with notice := { s.notice with flags := s.notice.flags ||| f.set } } f := by
  simp [State.raiseFlag, h, hm]

/-- The setting of a flag touches the flags, the pending list and the report queue, and nothing else. -/
theorem raiseFlag_only (s : State) (f : NoticeFlag) : ReportsOnly s (s.raiseFlag f) := by
  unfold State.raiseFlag
  split
  · exact .rfl s
  · have h : ReportsOnly s { s with notice := { s.notice with flags := s.notice.flags ||| f.set } } := Eq.refl _
    split
    · exact h.trans (noticeDue_only _ f)
    · exact h

/-- The oldest pending notice takes a place, or nothing happens (R168). -/
theorem admitNotice_cases (s : State) :
    s.admitNotice = s ∨ ∃ (f : NoticeFlag) (rest : List NoticeFlag), s.notice.waiting = f :: rest ∧ s.reportRoom = true ∧
      s.summariesWaiting = false ∧
      s.admitNotice = ({ s with notice := { s.notice with waiting := rest } } : State).enqueueReport (s.noticeFrame f) := by
  unfold State.admitNotice
  split
  · exact .inl (Eq.refl s)
  · rename_i f rest h
    split
    · rename_i hc
      simp only [Bool.and_eq_true, Bool.not_eq_true'] at hc
      exact .inr ⟨f, rest, h, hc.1, hc.2, Eq.refl _⟩
    · exact .inl (Eq.refl s)

/-- The admission of a pending notice touches the pending list and the report queue. -/
theorem admitNotice_only (s : State) : ReportsOnly s s.admitNotice := by
  obtain h | ⟨f, rest, _, _, _, h⟩ := admitNotice_cases s
  · rw [h]; exact .rfl s
  · rw [h]; exact Eq.refl _

/-- The same for several of them. -/
theorem admitNotices_only (n : Nat) : ∀ s : State, ReportsOnly s (s.admitNotices n) := by
  induction n with
  | zero => exact .rfl
  | succ n ih => exact fun s => (admitNotice_only s).trans (ih s.admitNotice)

/-- The close of a pass touches the pass, the notices and the report queue. -/
theorem passClosed_only (s : State) : ReportsOnly s s.passClosed := by
  have h : ReportsOnly s { s with pass := { s.pass with state := .closed, summary := none } } := Eq.refl _
  exact (h.trans (admitNotices_only _ _)).trans (raiseFlag_only _ _)

/-- A waiting summary takes a free place; the one of site 15 closes the pass; else nothing happens (R98, R101). -/
theorem enqueueSummary_cases (s : State) :
    (s.enqueueSummary = s ∧ (s.pass.summary = none ∨ s.reportRoom = false)) ∨
    ∃ i : SiteNo, s.pass.summary = some i ∧ s.reportRoom = true ∧
      ((i = 15 ∧ s.enqueueSummary = (s.enqueueReport (s.summaryFrame i)).passClosed) ∨
       (i ≠ 15 ∧ s.enqueueSummary =
         { s.enqueueReport (s.summaryFrame i) with pass := { s.pass with summary := some (i + 1) } })) := by
  unfold State.enqueueSummary
  split
  · rename_i h; exact .inl ⟨Eq.refl s, .inl h⟩
  · rename_i i h
    split
    · rename_i hr
      refine .inr ⟨i, h, hr, ?_⟩
      by_cases hi : i = 15
      · exact .inl ⟨hi, by simp [hi]⟩
      · exact .inr ⟨hi, by simp [hi]⟩
    · rename_i hr; exact .inl ⟨Eq.refl s, .inr (by simpa using hr)⟩

/-- A summary touches the pass, the notices and the report queue. -/
theorem enqueueSummary_only (s : State) : ReportsOnly s s.enqueueSummary := by
  obtain ⟨h, -⟩ | ⟨i, -, -, ⟨-, h⟩ | ⟨-, h⟩⟩ := enqueueSummary_cases s
  · rw [h]; exact .rfl s
  · rw [h]; exact (enqueueReport_only s _).trans (passClosed_only _)
  · rw [h]; exact Eq.refl _

/-- The same for several of them. -/
theorem enqueueSummaries_only (n : Nat) : ∀ s : State, ReportsOnly s (s.enqueueSummaries n) := by
  induction n with
  | zero => exact .rfl
  | succ n ih => exact fun s => (enqueueSummary_only s).trans (ih s.enqueueSummary)

/-- The end of a drain touches the pass, the notices and the report queue. -/
theorem beginSummaries_only (s : State) : ReportsOnly s s.beginSummaries := by
  have h : ReportsOnly s { s with pass := { s.pass with summary := some 0 } } := Eq.refl _
  exact h.trans (enqueueSummaries_only 16 _)

/-- A drain that is complete ends, else nothing happens (R96). -/
theorem settleDrain_cases (s : State) :
    (s.settleDrain = s ∧ (s.draining = false ∨ s.countedTotal ≠ 0)) ∨
    (s.settleDrain = s.beginSummaries ∧ s.draining = true ∧ s.countedTotal = 0) := by
  unfold State.settleDrain State.drainDone
  cases h : s.draining <;> by_cases k : s.countedTotal = 0 <;> simp [k]

/-- Where no drain is in progress there is none to end. -/
theorem settleDrain_of_not_draining (s : State) (h : s.draining = false) : s.settleDrain = s := by
  simp [State.settleDrain, State.drainDone, h]

/-- The report that a removal makes to Pass Control touches the pass, the notices and the report queue. -/
theorem settleDrain_only (s : State) : ReportsOnly s s.settleDrain := by
  obtain ⟨h, -⟩ | ⟨h, -, -⟩ := settleDrain_cases s
  · rw [h]; exact .rfl s
  · rw [h]; exact beginSummaries_only s

/-- A freed place that is filled touches the pass, the notices and the report queue. -/
theorem fillPlace_only (s : State) : ReportsOnly s s.fillPlace := by
  unfold State.fillPlace
  split
  · exact enqueueSummary_only s
  · exact admitNotice_only s

/-- SITE_DROPPED, with the end of a drain beside it, touches the pass, the notices, the report queue and the draw counter. -/
theorem raiseDropped_only (s : State) (drains : Bool) : ReportsOnly s (s.raiseDropped drains) := by
  unfold State.raiseDropped
  have h : ReportsOnly s s.drawn := Eq.refl _
  split
  · split
    · exact (h.trans (raiseFlag_only _ _)).trans (settleDrain_only _)
    · exact (h.trans (settleDrain_only _)).trans (raiseFlag_only _ _)
  · exact raiseFlag_only s _

end Sys2Proof.Machine
end

