-- ==== Sys2Proof/Laws/Ends.lean ====
section
/-! SUPPORT. The end of a drain at the close of a step: what the reports of a step depend on, so that they may be read from the state the step leaves. -/

namespace Sys2Proof.Machine

@[simp] theorem beforeReport_site (s t : State) (i : SiteNo) : (beforeReport s t).site i = t.site i := rfl
@[simp] theorem beforeReport_sites (s t : State) : (beforeReport s t).sites = t.sites := rfl
@[simp] theorem beforeReport_pass (s t : State) : (beforeReport s t).pass = s.pass := rfl
@[simp] theorem beforeReport_reports (s t : State) : (beforeReport s t).ret.reports = s.ret.reports := rfl
@[simp] theorem beforeReport_notice (s t : State) : (beforeReport s t).notice = s.notice := rfl
@[simp] theorem beforeReport_chainPos (s t : State) : (beforeReport s t).chainPos = t.chainPos := rfl
@[simp] theorem beforeReport_draining (s t : State) : (beforeReport s t).draining = s.draining := rfl

/-- Two parts that build the same summaries and notices: alike in the pass, the reports, the notices, the chain position and every site but for what its command lane holds. -/
structure Alike (v w : State) : Prop where
  pass : v.pass = w.pass
  reports : v.ret.reports = w.ret.reports
  notice : v.notice = w.notice
  chainPos : v.chainPos = w.chainPos
  sites : ∀ i, { v.site i with command := .park } = { w.site i with command := SiteCommand.park }

/-- Parts that are alike report alike. -/
theorem Alike.reported {v w : State} (h : Alike v w) : Reported v w := ⟨h.pass.symm, h.reports.symm, h.notice.symm⟩

/-- Parts that are alike build the same summary. -/
theorem Alike.summaryFrame {v w : State} (h : Alike v w) (i : SiteNo) : v.summaryFrame i = w.summaryFrame i := by
  have hs := h.sites i
  simp only [Site.mk.injEq] at hs
  simp [State.summaryFrame, State.source, Site.verdict, h.chainPos, h.pass, hs]

/-- Parts that are alike build the same notice. -/
theorem Alike.noticeFrame {v w : State} (h : Alike v w) (f : NoticeFlag) : v.noticeFrame f = w.noticeFrame f := by
  simp [State.noticeFrame, State.source, State.maskedFlags, h.chainPos, h.notice]

/-- A record joins both report queues. -/
theorem Alike.enqueueReport {v w : State} (h : Alike v w) (f : Frame) : Alike (v.enqueueReport f) (w.enqueueReport f) :=
  ⟨h.pass, by simp [State.enqueueReport, h.reports], h.notice, h.chainPos, h.sites⟩

/-- The same notices and the same pass put into both. -/
theorem Alike.with {v w : State} (h : Alike v w) (n : Notices) (p : Pass) :
    Alike { v with notice := n, pass := p } { w with notice := n, pass := p } :=
  ⟨rfl, h.reports, rfl, h.chainPos, h.sites⟩

/-- The same pass put into both. -/
theorem Alike.withPass {v w : State} (h : Alike v w) (p : Pass) : Alike { v with pass := p } { w with pass := p } :=
  ⟨rfl, h.reports, h.notice, h.chainPos, h.sites⟩

/-- A notice that becomes due keeps parts alike. -/
theorem Alike.noticeDue {v w : State} (h : Alike v w) (f : NoticeFlag) : Alike (v.noticeDue f) (w.noticeDue f) := by
  have e := h.noticeFrame f
  unfold State.noticeDue State.reportRoom State.summariesWaiting
  rw [h.reports, h.notice, h.pass, e]
  split
  · exact h.enqueueReport _
  split
  · exact h
  · exact h.with _ w.pass

/-- A notice flag set keeps parts alike. -/
theorem Alike.raiseFlag {v w : State} (h : Alike v w) (f : NoticeFlag) : Alike (v.raiseFlag f) (w.raiseFlag f) := by
  unfold State.raiseFlag
  rw [h.notice]
  have g : Alike { v with notice := { w.notice with flags := w.notice.flags ||| f.set } }
      { w with notice := { w.notice with flags := w.notice.flags ||| f.set } } :=
    ⟨h.pass, h.reports, rfl, h.chainPos, h.sites⟩
  split
  · exact h
  dsimp only
  split
  · exact g.noticeDue f
  · exact g

/-- A pending notice that takes a free place keeps parts alike. -/
theorem Alike.admitNotice {v w : State} (h : Alike v w) : Alike v.admitNotice w.admitNotice := by
  unfold State.admitNotice State.reportRoom State.summariesWaiting
  rw [h.notice, h.reports, h.pass]
  split
  · exact h
  split
  · rw [h.noticeFrame]
    exact (h.with _ w.pass).enqueueReport _
  · exact h

/-- Pending notices that take free places keep parts alike. -/
theorem Alike.admitNotices {v w : State} (h : Alike v w) (n : Nat) : Alike (v.admitNotices n) (w.admitNotices n) := by
  induction n generalizing v w with
  | zero => exact h
  | succ n ih => exact ih h.admitNotice

/-- The end of the summaries keeps parts alike. -/
theorem Alike.passClosed {v w : State} (h : Alike v w) : Alike v.passClosed w.passClosed := by
  unfold State.passClosed
  dsimp only
  rw [h.notice, h.pass]
  exact ((h.with w.notice { w.pass with state := .closed, summary := none }).admitNotices _).raiseFlag _

/-- A summary that takes a free place keeps parts alike. -/
theorem Alike.enqueueSummary {v w : State} (h : Alike v w) : Alike v.enqueueSummary w.enqueueSummary := by
  unfold State.enqueueSummary State.reportRoom
  rw [h.pass, h.reports]
  split
  · exact h
  split
  · rw [h.summaryFrame]
    have g := h.enqueueReport (w.summaryFrame ‹_›)
    dsimp only
    split
    · exact g.passClosed
    · exact ⟨by simp [State.enqueueReport, h.pass], g.reports, g.notice, g.chainPos, g.sites⟩
  · exact h

/-- Summaries that take free places keep parts alike. -/
theorem Alike.enqueueSummaries {v w : State} (h : Alike v w) (n : Nat) : Alike (v.enqueueSummaries n) (w.enqueueSummaries n) := by
  induction n generalizing v w with
  | zero => exact h
  | succ n ih => exact ih h.enqueueSummary

/-- Parts that are alike hold as many counted entries. -/
theorem Alike.countedTotal {v w : State} (h : Alike v w) : v.countedTotal = w.countedTotal := by
  have e : ∀ i, (v.site i).queue = (w.site i).queue := fun i => by
    have hs := h.sites i
    simp only [Site.mk.injEq] at hs
    simp [hs]
  simp [State.countedTotal, e]

/-- The end of a drain keeps parts alike: what the reports of a removal leave of the pass, the report queue and the notices may be read from any part like it. -/
theorem Alike.settleDrain {v w : State} (h : Alike v w) : Alike v.settleDrain w.settleDrain := by
  have e := h.countedTotal
  unfold State.settleDrain State.drainDone State.draining
  rw [h.pass, e]
  split
  · unfold State.beginSummaries
    rw [h.pass]
    exact (h.withPass _).enqueueSummaries 16
  · exact h

/-- The report of a removal may be read after the step: where parts before it are alike, its end of a drain leaves the one what it leaves the other. -/
theorem settleDrain_reported {v w : State} (h : Alike v w) : Reported v.settleDrain w.settleDrain := h.settleDrain.reported

end Sys2Proof.Machine
end

