-- ==== Sys2Proof/Laws/Lanes.lean ====
section
/-! SUPPORT. Command lanes, grants, parking, losses and expiry: what each operation does to the site it names, and that it touches the sites and the outputs only; the orders a READ_DATA word that ends a drain can take. -/

namespace Sys2Proof.Machine

/-- Nothing differs but the sites and the outputs. -/
def SitesOnly (s t : State) : Prop := t = { s with sites := t.sites, out := t.out }

/-- A state differs from itself in nothing. -/
theorem SitesOnly.rfl (s : State) : SitesOnly s s := Eq.refl s

/-- Two such changes one after the other are one. -/
theorem SitesOnly.trans {s t u : State} (h : SitesOnly s t) (k : SitesOnly t u) : SitesOnly s u := by
  unfold SitesOnly at h k ⊢
  rw [k, h]

/-- A change of one site is such a change. -/
theorem onSite_only (s : State) (i : SiteNo) (f : Site → Site) : SitesOnly s (s.onSite i f) := Eq.refl _

/-- A command put on a lane is such a change. -/
theorem send_only (s : State) (i : SiteNo) (c : SiteCommand) : SitesOnly s (s.send i c) := Eq.refl _

/-- What each site's operation changes so, the operation done for all sites changes so. -/
theorem forSites_only {op : SiteNo → State → State} (h : ∀ i t, SitesOnly t (op i t)) (s : State) :
    SitesOnly s (forSites op s) :=
  forSites_keeps (P := SitesOnly s) (fun i _ ht => ht.trans (h i _)) (.rfl s)

/-- The site granted: GRANTED, with PARK on its lane (R25). -/
theorem site_grant (s : State) (i j : SiteNo) :
    (s.grant i).site j = if j = i then { s.site j with hold := .granted, command := .park } else s.site j := by
  unfold State.grant
  rw [State.site_send, State.site_send, State.site_onSite]
  by_cases h : j = i <;> simp [h]

/-- A grant puts HOLD_GRANT and then PARK on the lane, and changes nothing else but the site granted (R25). -/
theorem grant_spec (s : State) (i : SiteNo) :
    s.grant i = { s.setSite i { s.site i with hold := .granted, command := .park } with
      out := { s.out with commands := s.out.commands ++ [(i, .holdGrant), (i, .park)] } } := by
  have hs : (s.grant i).sites = (s.setSite i { s.site i with hold := .granted, command := .park }).sites :=
    sites_ext fun j => by
      show (s.grant i).site j = (s.setSite i _).site j
      rw [site_grant, State.site_setSite]
      by_cases h : j = i
      · subst h; simp
      · simp [h]
  have h : s.grant i = { s with sites := (s.grant i).sites, out := (s.grant i).out } := rfl
  rw [h, hs]
  simp [State.grant]

/-- A grant touches the sites and the outputs only. -/
theorem grant_only (s : State) (i : SiteNo) : SitesOnly s (s.grant i) := Eq.refl _

/-- A queue reported empty grants a PENDING hold, and does nothing else (R34). -/
theorem grantIfEmpty_cases (s : State) (i : SiteNo) :
    (s.grantIfEmpty i = s.grant i ∧ (s.site i).hold = .pending ∧ (s.site i).queue = []) ∨
    (s.grantIfEmpty i = s ∧ ¬((s.site i).hold = .pending ∧ (s.site i).queue = [])) := by
  unfold State.grantIfEmpty
  by_cases h : (s.site i).hold = .pending ∧ (s.site i).queue = [] <;> simp [h]

/-- The report of an empty queue touches the sites and the outputs only. -/
theorem grantIfEmpty_only (s : State) (i : SiteNo) : SitesOnly s (s.grantIfEmpty i) := by
  obtain ⟨h, -⟩ | ⟨h, -⟩ := grantIfEmpty_cases s i
  · rw [h]; exact grant_only s i
  · rw [h]; exact .rfl s

/-- A site after the report of an empty queue. -/
theorem site_grantIfEmpty (s : State) (i j : SiteNo) :
    (s.grantIfEmpty i).site j =
      if j = i ∧ (s.site i).hold = .pending ∧ (s.site i).queue = [] then
        { s.site j with hold := .granted, command := .park }
      else s.site j := by
  obtain ⟨h, k⟩ | ⟨h, k⟩ := grantIfEmpty_cases s i
  · rw [h, site_grant]; simp [k]
  · rw [h]
    have : ¬(j = i ∧ (s.site i).hold = .pending ∧ (s.site i).queue = []) := fun e => k e.2
    rw [if_neg this]

/-- A port that parks holds PARK; the lane that holds it already is left (R24). -/
theorem site_parkPort (s : State) (i j : SiteNo) :
    (s.parkPort i).site j = if j = i then { s.site j with command := .park } else s.site j := by
  unfold State.parkPort
  split
  · rename_i h
    by_cases e : j = i
    · subst e; simp [← h]
    · simp [e]
  · exact s.site_send i j .park

/-- Parking touches the sites and the outputs only. -/
theorem parkPort_only (s : State) (i : SiteNo) : SitesOnly s (s.parkPort i) := by
  unfold State.parkPort
  split
  · exact .rfl s
  · exact send_only s i .park

/-- The site that leaves ENABLED: an empty queue, PARK on the lane, a PENDING hold granted (R28, R54). -/
theorem site_vacate (s : State) (i j : SiteNo) :
    (s.vacate i).site j =
      if j = i then { s.site j with
        queue := [], command := .park, hold := if (s.site j).hold = .pending then .granted else (s.site j).hold }
      else s.site j := by
  unfold State.vacate
  by_cases e : j = i
  · subst e
    by_cases h : (s.site j).hold = .pending <;> simp [h, site_grant, site_parkPort]
  · by_cases h : (s.site i).hold = .pending <;> simp [h, e, site_grant, site_parkPort, State.site_onSite]

/-- A departure from ENABLED touches, at the site, the sites and the outputs only. -/
theorem vacate_only (s : State) (i : SiteNo) : SitesOnly s (s.vacate i) := by
  have h := onSite_only s i fun x => { x with queue := [] }
  unfold State.vacate
  split
  · exact h.trans (grant_only _ i)
  · exact h.trans (parkPort_only _ i)

/-- A drop request is acted on at an ENABLED site with the setting on, and nowhere else; the drop sets SITE_DROPPED and leaves the end of a drain to the reports that follow (R32, R69). -/
theorem dropRequest_cases (s : State) (i : SiteNo) :
    (s.dropRequest i = (s.leaveDropped i .unrepairable).raiseFlag .siteDropped ∧
      (s.site i).condition = .enabled ∧ (s.site i).dropOn = true) ∨
    (s.dropRequest i = s ∧ ¬((s.site i).condition = .enabled ∧ (s.site i).dropOn = true)) := by
  unfold State.dropRequest
  by_cases h : (s.site i).condition = .enabled ∧ (s.site i).dropOn = true <;> simp [h]

/-- Entries lost: the lost count and COVERAGE_GAP for the counted ones, nothing else (R46). -/
theorem losing_spec (x : Site) (gone : List Entry) :
    x.losing gone = { x with
      counts := { x.counts with lost := satAdd x.counts.lost (countedIn gone) }
      flags := { x.flags with coverageGap := x.flags.coverageGap || 0 < countedIn gone } } := by
  unfold Site.losing
  by_cases h : countedIn gone = 0
  · have hs : satAdd x.counts.lost 0 = x.counts.lost := by
      have := x.counts.lost.isLt
      simp [satAdd, this]
    simp [h, hs]
  · have : 0 < countedIn gone := Nat.pos_of_ne_zero h
    simp [h, this]

/-- The expiry test at a site with nothing to expire does nothing. -/
theorem expireSite_of_none (s : State) (i : SiteNo) (h : s.expiredAt i = []) : s.expireSite i = s := by
  simp [State.expireSite, h]

/-- An expiry test touches the sites and the outputs only (R48). -/
theorem expireSite_only (s : State) (i : SiteNo) : SitesOnly s (s.expireSite i) := by
  unfold State.expireSite
  split
  · exact .rfl s
  · exact (onSite_only s i _).trans (grantIfEmpty_only _ i)

/-- The NOPs of a slot touch the sites and the outputs only (R23). -/
theorem slotNops_only (s : State) : SitesOnly s s.slotNops :=
  forSites_only (fun i t => by
    show SitesOnly t (if t.parked i then t else t.send i .nop)
    split
    · exact .rfl t
    · exact send_only t i .nop) s

/-- The outcome of an expanded frame at one port touches the sites and the outputs only (R20). -/
theorem issue_only (s : State) (c : Cycle) (i : SiteNo) : SitesOnly s (s.issue c i) := by
  unfold State.issue
  split
  · split
    · exact send_only s i _
    · exact send_only s i _
    · split
      · exact (onSite_only s i _).trans (send_only _ i _)
      · exact (onSite_only s i _).trans (send_only _ i _)
  · split
    · exact send_only s i _
    · dsimp only
      split
      · exact (onSite_only s i _).trans (send_only _ i _)
      · exact send_only s i _
  · exact .rfl s

/-- The expiry tests of a slot touch the sites and the outputs only (R48). -/
theorem expireSites_only (s : State) : SitesOnly s s.expireSites := forSites_only (fun i t => expireSite_only t i) s

/-- The outcomes of an expanded frame at the ports named touch the sites and the outputs only (R20). -/
theorem issueWhere_only (s : State) (c : Cycle) (p : SiteNo → Bool) : SitesOnly s (s.issueWhere c p) :=
  forSites_only (fun i t => by
    show SitesOnly t (if p i then t.issue c i else t)
    split
    · exact issue_only t c i
    · exact .rfl t) s

/-- What follows a READ_DATA word's removals is done in one of three ways: where the word ends a drain and a stray or an uncounted offer shows, the end of the drain comes after or before it; else there is one order (R45, R100). -/
theorem afterRemoval_cases (s : State) (i : SiteNo) (lost : List Entry) (shows : Bool) (act : State → State) :
    (s.afterRemoval i lost shows act = (act s).reportRemoval i ∧
      (countedIn lost = 0 ∨ shows = false ∨ s.drainDone = false)) ∨
    ((countedIn lost ≠ 0 ∧ shows = true ∧ s.drainDone = true) ∧
      (s.afterRemoval i lost shows act = (act s.drawn).reportRemoval i ∨
       s.afterRemoval i lost shows act = (act s.drawn.settleDrain).reportRemoval i)) := by
  unfold State.afterRemoval
  by_cases h : countedIn lost = 0
  · exact .inl ⟨by simp [h], .inl h⟩
  · cases shows
    · exact .inl ⟨by simp, .inr (.inl rfl)⟩
    · cases hd : s.drainDone
      · exact .inl ⟨by simp, .inr (.inr rfl)⟩
      · refine .inr ⟨⟨h, rfl, rfl⟩, ?_⟩
        cases s.draw
        · exact .inl (by simp [h])
        · exact .inr (by simp [h])

/-- The link is what it was. -/
theorem SitesOnly.link {s t : State} (h : SitesOnly s t) : t.link = s.link := by unfold SitesOnly at h; rw [h]

/-- The tables are what they were. -/
theorem SitesOnly.tables {s t : State} (h : SitesOnly s t) : t.tables = s.tables := by unfold SitesOnly at h; rw [h]

/-- The pass is what it was. -/
theorem SitesOnly.pass {s t : State} (h : SitesOnly s t) : t.pass = s.pass := by unfold SitesOnly at h; rw [h]

/-- The return side is what it was. -/
theorem SitesOnly.ret {s t : State} (h : SitesOnly s t) : t.ret = s.ret := by unfold SitesOnly at h; rw [h]

/-- The notices are what they were. -/
theorem SitesOnly.notice {s t : State} (h : SitesOnly s t) : t.notice = s.notice := by unfold SitesOnly at h; rw [h]

/-- Calibration is what it was. -/
theorem SitesOnly.cal {s t : State} (h : SitesOnly s t) : t.cal = s.cal := by unfold SitesOnly at h; rw [h]

end Sys2Proof.Machine
end

