-- ==== Sys2Proof/Laws/Runs.lean ====
section
/-! SUPPORT. Calibration runs: what the attempt to start a run, its ends and a site's departure can do, once each, and the words of a stage. -/

namespace Sys2Proof.Machine

/-- The attempt to start a run: nothing unless the rotation is RUNNING, the due flag set and the spare IDLE; else the due flag is cleared, and a run starts at the position the walk finds (R113, R114). -/
theorem attemptRun_cases (s : State) :
    (s.attemptRun = s ∧ ¬(s.cal.running = true ∧ s.cal.due = true ∧ s.cal.spare = .idle)) ∨
    ((s.cal.running = true ∧ s.cal.due = true ∧ s.cal.spare = .idle) ∧
      ((s.walk = none ∧ s.attemptRun = { s with cal := { s.cal with due := false } }) ∨
       ∃ p : Nat, s.walk = some p ∧
        s.attemptRun = State.startRun
          { s with cal := { s.cal with due := false, index := Fin.ofNat 16 ((p + 1) % s.tables.orderLength) } } (s.orderAt p))) := by
  unfold State.attemptRun
  split
  · rename_i h
    simp only [Bool.and_eq_true, beq_iff_eq] at h
    refine .inr ⟨⟨h.1.1, h.1.2, h.2⟩, ?_⟩
    split
    · rename_i p hp; exact .inr ⟨p, hp, rfl⟩
    · rename_i hp; exact .inl ⟨hp, rfl⟩
  · rename_i h
    exact .inl ⟨rfl, fun k => h (by simp [k.1, k.2.1, k.2.2])⟩

/-- The attempt to start a run touches calibration only. -/
theorem attemptRun_spec (s : State) : s.attemptRun = { s with cal := s.attemptRun.cal } := by
  obtain ⟨h, -⟩ | ⟨-, ⟨-, h⟩ | ⟨p, -, h⟩⟩ := attemptRun_cases s <;> rw [h]
  rfl

/-- The end of a run: its lane ONLINE, calibration released and a start attempted, nothing else (R118, R124). -/
theorem endRun_of_target (s : State) (i : SiteNo) (h : s.cal.target = some i) :
    s.endRun = State.attemptRun { s.setSite i { s.site i with lane := .online } with cal := s.cal.released } := by
  unfold State.endRun
  rw [h]
  rfl

/-- Where there is no target there is no run to end. -/
theorem endRun_of_none (s : State) (h : s.cal.target = none) : s.endRun = s := by
  unfold State.endRun; rw [h]

/-- The hand-back: the lane ONLINE, the working phase written, the run counted, calibration released and a start attempted (R122). -/
theorem completeRun_spec (s : State) (i : SiteNo) :
    s.completeRun i = State.attemptRun { s.setSite i { s.site i with lane := .online } with
      tables := { s.tables with
        trim := s.tables.trim.set i { s.trim i with phase := s.cal.working.getD (s.trim i).phase } }
      cal := { s.cal.released with runs := satAdd s.cal.runs 1 } } := rfl

/-- A departure of a site that is not the target of a run in progress does nothing to calibration (R126). -/
theorem departure_of_elsewhere (s : State) (i : SiteNo) (h : s.cal.target ≠ some i) : s.departure i = s := by
  simp [State.departure, h]

/-- What a departure is: nothing, the end of the run, or its hand-back (R126, R128). -/
theorem departure_cases (s : State) (i : SiteNo) :
    s.departure i = s ∨
    (s.cal.target = some i ∧ (s.cal.spare = .training ∨ s.cal.spare = .standingIn) ∧
      (s.departure i = s.endRun ∨ (s.cal.boundary = some .handBack ∧ s.departure i = s.completeRun i))) := by
  unfold State.departure
  split
  · rename_i h
    split
    · rename_i hs; exact .inr ⟨h, .inl hs, .inl rfl⟩
    · rename_i hs
      split
      · rename_i hb; exact .inr ⟨h, .inr hs, .inr ⟨hb, rfl⟩⟩
      · exact .inr ⟨h, .inr hs, .inl rfl⟩
    · exact .inl rfl
  · exact .inl rfl

/-- A site dropped makes no draw: neither its discard, its grant nor the end of a run on it (R28). -/
theorem leaveDropped_draws (s : State) (i : SiteNo) (c : DropCause) : (s.leaveDropped i c).draws = s.draws := by
  have h : ((s.setCondition i (.dropped c)).vacate i).draws = s.draws := by
    have := vacate_only (s.setCondition i (.dropped c)) i
    unfold SitesOnly at this
    rw [this]
    rfl
  have run (t : State) : t.attemptRun.draws = t.draws := by rw [attemptRun_spec]
  unfold State.leaveDropped
  rw [← h]
  generalize (s.setCondition i (.dropped c)).vacate i = t
  obtain e | ⟨ht, -, e | ⟨-, e⟩⟩ := departure_cases t i
  · rw [e]
  · rw [e, endRun_of_target t i ht, run]; rfl
  · rw [e, completeRun_spec, run]; rfl

/-- The stage of a run in progress is on the lane of its target (R108). -/
theorem stage_cases (s : State) (i : SiteNo) (h : s.cal.target = some i) :
    s.stage = .none ∨ s.stage = .trainingScan i ∨ s.stage = .shadow i ∨ s.stage = .offlineScan i ∨ s.stage = .soak i := by
  unfold State.stage
  rw [h]
  dsimp only
  split <;> simp

/-- A word period of a lane error: nothing where no run in progress is on that lane, else one word given to the stage there (R127). -/
theorem comparePeriod_cases (s : State) (i : SiteNo) (p : WordPair) :
    s.comparePeriod i p = s ∨
    (s.cal.target = some i ∧
      ((s.stage = .trainingScan i ∧ s.comparePeriod i p = s.trainWords i [p]) ∨
       (s.stage = .shadow i ∧ s.comparePeriod i p = s.shadowWords [p]) ∨
       (s.stage = .offlineScan i ∧ s.comparePeriod i p = s.offlineWords i [p]) ∨
       (s.stage = .soak i ∧ s.comparePeriod i p = s.soakWords i [p]))) := by
  by_cases h : s.cal.target = some i
  · unfold State.comparePeriod
    rw [if_pos h]
    obtain e | e | e | e | e := stage_cases s i h <;> simp [e, h]
  · exact .inl (by simp [State.comparePeriod, h])

/-- A word whose parity does not hold disagrees with every word (R109). -/
theorem wordsAgree_of_bad_parity (p : WordPair) (h : oddOnes p.reference = false) : wordsAgree p = false := by
  simp [wordsAgree, h]

/-- The words of a scan are counted one by one and never past 1024. -/
theorem scan_compare_words (x : Scan) (p : WordPair) :
    (x.compare p).words = if 1024 ≤ x.words then x.words else x.words + 1 := by
  unfold Scan.compare
  split
  · rfl
  · dsimp only; split <;> rfl

/-- The word count of a scan after a list of word periods. -/
theorem scan_foldl_words (words : List WordPair) : ∀ x : Scan, x.words ≤ 1024 →
    (words.foldl Scan.compare x).words = min 1024 (x.words + words.length) := by
  induction words with
  | nil => intro x hx; simp [hx]
  | cons p l ih =>
    intro x hx
    have h := scan_compare_words x p
    rw [List.foldl_cons, ih _ (by rw [h]; split <;> omega), h]
    split <;> simp only [List.length_cons] <;> omega

end Sys2Proof.Machine
end

