-- ==== Sys2Proof/Laws/Frames.lean ====
section
/-! SUPPORT. Frames and requests: the byte order, the check of a frame, what taking a frame can do in each link state, what becomes of a request. -/

namespace Sys2Proof.Machine

/-- A list cut or filled to n members has n members. -/
@[simp] theorem padTo_length {α : Type} (n : Nat) (z : α) (l : List α) : (padTo n z l).length = n := by
  simp only [padTo, List.length_take, List.length_append, List.length_replicate]
  omega

/-- A list that has n members already is left. -/
theorem padTo_of_length {α : Type} (n : Nat) (z : α) (l : List α) (h : l.length = n) : padTo n z l = l := by
  subst h; simp [padTo]

/-- The two halves of a 16-bit field make the field. -/
theorem half_append (x : Half) : x.extractLsb' 8 8 ++ x.extractLsb' 0 8 = x := by
  ext i hi
  simp only [BitVec.getElem_append, BitVec.getElem_extractLsb']
  split
  · simp [BitVec.getLsbD_eq_getElem hi]
  · have : 8 + (i - 8) = i := by omega
    simp [this, BitVec.getLsbD_eq_getElem hi]

/-- A 16-bit field read where it was written (R193). -/
theorem half_be16 (x : Half) (rest : List Byte) : half (be16 x ++ rest) 0 = x := half_append x

/-- The bytes of a 16-bit field. -/
@[simp] theorem be16_length (x : Half) : (be16 x).length = 2 := rfl

/-- The bytes of a 32-bit field. -/
@[simp] theorem be32_length (x : Long) : (be32 x).length = 4 := rfl

/-- A frame built by the part carries the kind given. -/
@[simp] theorem mkFrame_kind (kind : Byte) (bytes : List Byte) : (mkFrame kind bytes).kind = kind := rfl

/-- A frame built by the part has 29 body bytes. -/
@[simp] theorem mkFrame_body_length (kind : Byte) (bytes : List Byte) : (mkFrame kind bytes).body.length = 29 :=
  padTo_length 29 0 bytes

/-- A frame built from 29 bytes carries them. -/
theorem mkFrame_body_of_length (kind : Byte) (bytes : List Byte) (h : bytes.length = 29) : (mkFrame kind bytes).body = bytes :=
  padTo_of_length 29 0 bytes h

/-- A frame built by the part is good (R131). -/
@[simp] theorem frameGood_mkFrame (kind : Byte) (bytes : List Byte) : frameGood (mkFrame kind bytes) = true := by
  simp [frameGood, mkFrame]

/-- A good frame is the frame its kind and body make. -/
theorem eq_mkFrame_of_good (f : Frame) (hl : f.body.length = 29) (hg : frameGood f = true) : f = mkFrame f.kind f.body := by
  obtain ⟨k, b, c⟩ := f
  simp only [frameGood, beq_iff_eq] at hg
  simp only [mkFrame, padTo_of_length 29 0 b hl, hg]

/-- A counter raised: it stays at its maximum (00_scope 5.2). -/
theorem satAdd_toNat {w : Nat} (c : BitVec w) (n : Nat) : (satAdd c n).toNat = min (2 ^ w - 1) (c.toNat + n) := by
  have hc := c.isLt
  unfold satAdd
  split
  · rename_i h; rw [BitVec.toNat_ofNat, Nat.mod_eq_of_lt h]; omega
  · rw [BitVec.toNat_allOnes]; omega

/-- In DOWN a frame is not delineated: nothing happens (R132). -/
theorem takeFrame_down (s : State) (f : Frame) (a : Arrival) (act : State → State) (h : s.link.state = .down) :
    s.takeFrame f a act = s := by
  simp [State.takeFrame, h]

/-- In SEEK a frame is a slot and serves the search (R134). -/
theorem takeFrame_seek (s : State) (f : Frame) (a : Arrival) (act : State → State) (h : s.link.state = .seek) :
    s.takeFrame f a act = ((s.forward f a).ageAll.expireAll).seekSlot a := by
  simp [State.takeFrame, h]

/-- In LIVE a frame whose slot completes a link loss is counted, forwarded and ages the entries, and the loss is taken (R138). -/
theorem takeFrame_loss (s : State) (f : Frame) (a : Arrival) (act : State → State) (h : s.link.state = .live)
    (hd : (s.link.count a).lossDue = true) :
    s.takeFrame f a act = (State.ageAll { s.forward f a with link := s.link.count a }).linkLoss := by
  simp [State.takeFrame, h, hd]

/-- In LIVE any other frame is counted, forwarded, ages the entries and is acted on (R141). -/
theorem takeFrame_live (s : State) (f : Frame) (a : Arrival) (act : State → State) (h : s.link.state = .live)
    (hd : (s.link.count a).lossDue = false) :
    s.takeFrame f a act = act (State.ageAll { s.forward f a with link := s.link.count a }) := by
  simp [State.takeFrame, h, hd]

/-- A request that the part does not take changes nothing (R175). -/
theorem request_of_not_taken (s : State) (c : Ctl) (run : State → State) (h : s.takes c = false) : s.request c run = s := by
  simp [State.request, h]

/-- A taken request with room for its response is executed (R176). -/
theorem request_of_room (s : State) (c : Ctl) (run : State → State) (h : s.takes c = true) (hr : s.responseRoom = true) :
    s.request c run = run s := by
  simp [State.request, h, hr]

/-- A taken request without room sets REQUESTS_LOST and does nothing else (R176). -/
theorem request_of_full (s : State) (c : Ctl) (run : State → State) (h : s.takes c = true) (hr : s.responseRoom = false) :
    s.request c run = s.raiseFlag .requestsLost := by
  simp [State.request, h, hr]

/-- The link's own counts leave what the counts do not concern (R136, R137). -/
theorem count_keeps (l : LinkRx) (a : Arrival) :
    l.count a = { l with
      position := (l.count a).position, missRun := (l.count a).missRun, lastCount := (l.count a).lastCount
      errorRun := (l.count a).errorRun, checkErrors := (l.count a).checkErrors } := rfl

/-- What a WRITE TABLE entry that is accepted changes is the tables, nothing else (R9). -/
theorem writeEntry_tables (s t : State) (id : TableId) (index : Nat) (b : List Byte) (clamped : Bool)
    (h : s.writeEntry id index b = .ok (t, clamped)) : t = { s with tables := t.tables } := by
  unfold State.writeEntry at h
  split at h
  · simp at h
  · cases id <;>
      simp only [State.writeTiming, State.writeScramble, State.writeSelector, State.writeTopology, State.writeRegion,
        State.writeTrim, State.writeOrder, State.writeParam] at h <;>
      (repeat' split at h) <;>
      simp only [Except.ok.injEq, Prod.mk.injEq, reduceCtorEq] at h <;>
      (obtain ⟨rfl, -⟩ := h; rfl)

end Sys2Proof.Machine
end

