-- ==== Sys2Proof/Laws/Queues.lean ====
section
/-! SUPPORT. The order of an expectation queue (R43, R44): what it says, and that a pop, an ageing and an accepted push keep it. -/

namespace Sys2Proof.Machine

/-- An empty queue is in order. -/
@[simp] theorem queueInOrder_nil : queueInOrder [] = true := rfl

/-- What the order of a queue says of its head and its members. -/
theorem queueInOrder_cons (h : Entry) (rest : List Entry) :
    queueInOrder (h :: rest) = true ↔
      (h :: rest).Pairwise (fun a b => (a.tag - h.tag).toNat < (b.tag - h.tag).toNat) ∧
      (∀ e ∈ h :: rest, (e.tag - h.tag).toNat ≤ 32767) ∧
      (h :: rest).Pairwise fun a b => b.age.toNat ≤ a.age.toNat := by
  unfold queueInOrder
  simp only [Bool.and_eq_true, decide_eq_true_eq, List.all_eq_true, List.pairwise_map, List.forall_mem_map, and_assoc]

/-- A distance taken from a later tag is the difference of the distances. -/
theorem distance_from_later (a b c : Half) (h : (b - a).toNat ≤ (c - a).toNat) :
    (c - b).toNat = (c - a).toNat - (b - a).toNat := by
  have e : c - b = (c - a) - (b - a) := by ring
  rw [e, BitVec.toNat_sub_of_le (by simpa [BitVec.le_def] using h)]

/-- The head popped, the rest is in order. -/
theorem queueInOrder_tail {h : Entry} {rest : List Entry} (ho : queueInOrder (h :: rest) = true) :
    queueInOrder rest = true := by
  cases rest with
  | nil => rfl
  | cons k rest =>
    obtain ⟨ht, hd, ha⟩ := (queueInOrder_cons h (k :: rest)).1 ho
    obtain ⟨hk, hr⟩ := List.pairwise_cons.1 (List.pairwise_cons.1 ht).2
    have later : ∀ e ∈ k :: rest, (e.tag - k.tag).toNat = (e.tag - h.tag).toNat - (k.tag - h.tag).toNat := by
      intro e he
      apply distance_from_later
      obtain rfl | he := List.mem_cons.1 he
      · exact Nat.le_refl _
      · exact Nat.le_of_lt (hk e he)
    refine (queueInOrder_cons k rest).2 ⟨?_, ?_, (List.pairwise_cons.1 ha).2⟩
    · refine List.Pairwise.imp_of_mem (R := fun a b => (a.tag - h.tag).toNat < (b.tag - h.tag).toNat) ?_
        (List.pairwise_cons.1 ht).2
      intro a b ha hb hab
      rw [later a ha, later b hb]
      have : (k.tag - h.tag).toNat ≤ (a.tag - h.tag).toNat := by
        obtain rfl | ha := List.mem_cons.1 ha
        · exact Nat.le_refl _
        · exact Nat.le_of_lt (hk a ha)
      omega
    · intro e he
      rw [later e he]
      have := hd e (List.mem_cons_of_mem h he)
      omega

/-- Any number of entries popped from the head, the rest is in order. -/
theorem queueInOrder_drop (n : Nat) : ∀ {q : List Entry}, queueInOrder q = true → queueInOrder (q.drop n) = true := by
  induction n with
  | zero => intro q h; simpa using h
  | succ n ih =>
    intro q h
    cases q with
    | nil => simp
    | cons k rest => exact ih (queueInOrder_tail h)

/-- A queue aged by a slot stays in order (R44). -/
theorem queueInOrder_age {q : List Entry} (h : queueInOrder q = true) : queueInOrder (ageQueue q) = true := by
  cases q with
  | nil => rfl
  | cons k rest =>
    obtain ⟨ht, hd, ha⟩ := (queueInOrder_cons k rest).1 h
    have e : ageQueue (k :: rest) = { k with age := satAdd k.age 1 } :: ageQueue rest := rfl
    rw [e]
    refine (queueInOrder_cons _ _).2 ?_
    rw [← e]
    refine ⟨?_, ?_, ?_⟩
    · exact List.pairwise_map.2 ht
    · intro x hx
      obtain ⟨y, hy, rfl⟩ := List.mem_map.1 hx
      exact hd y hy
    · refine List.pairwise_map.2 (ha.imp ?_)
      intro a b hab
      simp only [satAdd_toNat]
      omega

/-- An accepted push keeps the order (R21, R43). -/
theorem queueInOrder_push {q : List Entry} {e : Entry} (h : queueInOrder q = true)
    (hacc : acceptsRead q e.tag = true) (hage : e.age = 0) : queueInOrder (q ++ [e]) = true := by
  cases q with
  | nil =>
    refine (queueInOrder_cons e []).2 ⟨List.pairwise_singleton _ _, ?_, List.pairwise_singleton _ _⟩
    intro x hx
    obtain rfl := List.mem_singleton.1 hx
    simp
  | cons k rest =>
    obtain ⟨ht, hd, ha⟩ := (queueInOrder_cons k rest).1 h
    have hl : (k :: rest).getLast? = some ((k :: rest).getLast (by simp)) := List.getLast?_eq_some_getLast (by simp)
    simp only [acceptsRead, List.head?_cons, hl, tagDistance, Bool.and_eq_true, decide_eq_true_eq] at hacc
    obtain ⟨-, ⟨-, hmax⟩, hlast⟩ := hacc
    replace hmax := of_decide_eq_true hmax
    replace hlast := of_decide_eq_true hlast
    have newer : ∀ a ∈ k :: rest, (a.tag - k.tag).toNat < (e.tag - k.tag).toNat := by
      intro a hm
      have split := List.dropLast_append_getLast (l := k :: rest) (by simp)
      rw [← split] at hm ht
      obtain hm | hm := List.mem_append.1 hm
      · exact Nat.lt_trans ((List.pairwise_append.1 ht).2.2 a hm _ (List.mem_singleton.2 rfl)) hlast
      · obtain rfl := List.mem_singleton.1 hm
        exact hlast
    refine (queueInOrder_cons k (rest ++ [e])).2 ⟨?_, ?_, ?_⟩
    · rw [← List.cons_append]
      exact List.pairwise_append.2 ⟨ht, List.pairwise_singleton _ _, fun a hm b hb => List.mem_singleton.1 hb ▸ newer a hm⟩
    · intro x hx
      rw [← List.cons_append] at hx
      obtain hx | hx := List.mem_append.1 hx
      · exact hd x hx
      · obtain rfl := List.mem_singleton.1 hx
        exact hmax
    · rw [← List.cons_append]
      refine List.pairwise_append.2 ⟨ha, List.pairwise_singleton _ _, fun a _ b hb => ?_⟩
      rw [List.mem_singleton.1 hb, hage]
      exact Nat.zero_le _

end Sys2Proof.Machine
end

