-- ==== Sys2Proof/Tests/Slice0.lean ====
section
/-! SUPPORT. Small tests: a malformed command for each check of WellFormed, frames and words written out from the formats, and the worked cases of the manual, one step each. -/

namespace Sys2Proof.Tests

open Machine

set_option Elab.async false

/-- The state after a command. -/
def after (c : Instr) (s : State) : State :=
  match exec c s with
  | .next t => t
  | .fault _ => s
  | .refused _ => s

/-- A part at chain position 3, LIVE with K 8, at multiframe position 2. -/
def live : State :=
  { State.reset with
    link := { state := .live, k := some 8, position := some 2, lastCount := some 9, signal := true }
    chainPos := some 3 }

/-- A broadcast with tag 7. -/
def all : Ctl := { addr := 0x0F, tag := 7 }

/-- n bytes of zeros. -/
def zeros (n : Nat) : List Byte := List.replicate n 0

/-- An entry with a tag and an age, expecting 0, counted. -/
def entry (tag : Half) (age : Byte) : Entry :=
  { tag := tag, age := age, expected := 0, mask := 0xFFFF, region := 0, row := 1, col := 2, mark := false, counted := true
    ext := 0 }

/-- The part with a site as given. -/
def withSite (s : State) (i : SiteNo) (x : Site) : State := s.setSite i x

/-- An ENABLED site with a queue. -/
def enabled (q : List Entry) : Site := { condition := .enabled, queue := q, command := .nop }

/-- An open pass. -/
def opened (s : State) : State := { s with pass := { state := .opened, number := 1 } }

/-- A READ frame of a cycle number, timing set 0, address 0. -/
def readOf (n : Half) : Cycle :=
  { op := 2, flags := 0, setByte := 0, address := 0, data := 0, mask := 0xFFFF, number := n, rest := zeros 16 }

/-- Operand lists of the wrong length are ill-formed: downstream frames. -/
theorem test_wellFormed_frames :
    Instr.wellFormed (.idleFrame (zeros 28)) = false ∧ Instr.wellFormed (.alignFrame 8 0 (zeros 26)) = false ∧
    Instr.wellFormed (.cycleFrame { readOf 0 with rest := zeros 15 }) = false ∧
    Instr.wellFormed (.exerciseFrame 1 (zeros 26)) = false ∧ Instr.wellFormed (.unknownKindFrame 9 (zeros 30)) = false ∧
    Instr.wellFormed (.badFrame { kind := 0, body := zeros 28, check := 0 }) = false ∧
    Instr.wellFormed (.returnFrameReceived { kind := 0, body := zeros 30, check := 0 }) = false := by decide +kernel

/-- A known kind, a good frame and a good word are no unknown kind, no bad frame and no lane word error. -/
theorem test_wellFormed_contents :
    Instr.wellFormed (.unknownKindFrame 4 (zeros 29)) = false ∧ Instr.wellFormed (.badFrame (mkFrame 0 [])) = false ∧
    Instr.wellFormed (.laneWordError 0 ⟨ReturnWord.idle.word, 0⟩) = false ∧
    Instr.wellFormed (.unknownRequest all 0x06 (zeros 26)) = false ∧
    Instr.wellFormed (.unknownRequest all 0x40 (5 :: zeros 25)) = false ∧
    Instr.wellFormed (.unknownRequest all 0x40 (6 :: zeros 25)) = true := by decide +kernel

/-- A calibration stage with no word is ill-formed, one longer than its stage, and one with a carrier word that fails its check. -/
theorem test_wellFormed_stages :
    Instr.wellFormed (.trainingScanEnd []) = false ∧ Instr.wellFormed (.shadowAgreementSuccess []) = false ∧
    Instr.wellFormed (.shadowAgreementTimeout []) = false ∧ Instr.wellFormed (.offlineScanEnd []) = false ∧
    Instr.wellFormed (.soakDisagreement []) = false ∧ Instr.wellFormed (.soakSuccess []) = false ∧
    Instr.wellFormed (.offlineScanEnd (List.replicate 1025 ⟨ReturnWord.idle.word, 0⟩)) = false ∧
    Instr.wellFormed (.soakSuccess (List.replicate 4097 ⟨ReturnWord.idle.word, 0⟩)) = false ∧
    Instr.wellFormed (.soakDisagreement [⟨0, 0⟩]) = false ∧
    Instr.wellFormed (.soakDisagreement [⟨ReturnWord.idle.word, 0⟩]) = true := by decide +kernel

/-- Parameter lists of the wrong length are ill-formed: CONTROL frames. -/
theorem test_wellFormed_requests :
    ([.enumerate all 0 (zeros 26), .resync all (zeros 25), .resetPart all (zeros 27), .readStatus all [],
      .setReporting all 0 0 (zeros 24), .clearFlags all 0 (zeros 24), .writeTable all 1 0 1 (zeros 22),
      .readTable all 1 0 (zeros 23), .setSites all 0 0 (zeros 21), .readHeadStatus all 0 0 (zeros 25),
      .readSiteCounts all 0 0 (zeros 25), .readSiteAnalysis all 0 0 0 (zeros 24), .openPass all 0 (zeros 24),
      .closePass all (zeros 25), .calControlStart all 0 (zeros 25), .calControlStop all 0 (zeros 25),
      .calControlAbort all 0 (zeros 25), .calControlRetry all 0 (zeros 25), .calControlStatus all 0 (zeros 25),
      .unknownRequest all 0x77 (zeros 25), .controlFrameNotTaken all 1 (zeros 27)] : List Instr).all
      (fun c => !c.wellFormed) = true := by decide +kernel

/-- The test string of R193. -/
theorem test_crc_of_the_test_string :
    crc16 [0x31, 0x32, 0x33, 0x34, 0x35, 0x36, 0x37, 0x38, 0x39] = 0x29B1 := by decide +kernel

/-- A CYCLE frame written out by section 10.2: READ, mark set, timing set 7, address, data, mask and number high byte first. -/
theorem test_decode_cycle :
    decodeFrame (mkFrame 0x02 [0x02, 0x01, 0x07, 0x12, 0x34, 0x56, 0x78, 0xAB, 0xCD, 0x0F, 0xF0, 0x00, 0x28]) =
      .cycleFrame { op := 2, flags := 1, setByte := 7, address := 0x12345678, data := 0xABCD, mask := 0x0FF0, number := 40
                    rest := zeros 16 } := by decide +kernel

/-- An ALIGN frame and an EXERCISE frame written out by section 10.2. -/
theorem test_decode_align_and_exercise :
    decodeFrame (mkFrame 0x01 [8, 42]) = .alignFrame 8 42 (zeros 27) ∧
    decodeFrame (mkFrame 0x04 [0x12, 0x34, 5]) = .exerciseFrame 0x1234 (5 :: zeros 26) := by decide +kernel

/-- CONTROL frames written out by sections 10.2, 10.5 and 10.6: target, request code, tag, parameters. -/
theorem test_decode_control :
    decodeFrame (mkFrame 0x03 [0x0F, 0x20, 9, 0x80, 0x01, 0x00, 0x02]) =
      .setSites { addr := 0x0F, tag := 9 } 0x8001 0x0002 (zeros 22) ∧
    decodeFrame (mkFrame 0x03 [0x03, 0x40, 9, 4, 5]) = .calControlRetry { addr := 0x03, tag := 9 } 5 (zeros 24) ∧
    decodeFrame (mkFrame 0x03 [0x03, 0x40, 9, 6]) = .unknownRequest { addr := 0x03, tag := 9 } 0x40 (6 :: zeros 25) := by
  decide +kernel

/-- A frame whose check is inverted is a bad frame; a kind outside the five is unknown. -/
theorem test_decode_bad_and_unknown :
    decodeFrame (poisoned (mkFrame 0x02 [])) = .badFrame (poisoned (mkFrame 0x02 [])) ∧
    decodeFrame (mkFrame 0x05 [1]) = .unknownKindFrame 5 (1 :: zeros 28) := by decide +kernel

/-- Return words written out by section 10.4: kind in bits 0 to 2, tag from bit 3, data from bit 19, parity in bit 35. -/
theorem test_decode_words :
    decodeWord 4 (0x800000000 ||| 0#36) 9 = .idleWord 4 ∧
    decodeWord 4 (1#36 ||| (0x0003#36 <<< 3) ||| (0x0100#36 <<< 19)) 9 = .laneWordError 4 ⟨0x008000019, 9⟩ ∧
    decodeWord 4 (1#36 ||| (0x0003#36 <<< 3) ||| (0x0100#36 <<< 19) ||| 0x800000000#36) 9 = .readDataWord 4 3 0x0100 ∧
    decodeWord 4 (1#36 ||| (0x0001#36 <<< 3) ||| (0x0100#36 <<< 19)) 9 = .readDataWord 4 1 0x0100 ∧
    decodeWord 4 (2#36 ||| (0x04#36 <<< 3) ||| 0x800000000#36) 9 = .statusWord 4 4 ∧
    decodeWord 4 (3#36 ||| 0x800000000#36) 9 = .holdRequestWord 4 ∧ decodeWord 4 4#36 9 = .holdReleaseWord 4 ∧
    decodeWord 4 7#36 9 = .laneWordError 4 ⟨7, 9⟩ := by decide +kernel

/-- The sequence of seed 1 starts with the register, high byte first (R142). -/
theorem test_exercise_seed_one : (exerciseSequence 1).take 2 = [0x00, 0x01] := by decide +kernel

/-- The scramble table of the worked case of section 1.6. -/
def translation : Tables :=
  { Tables.powerOn (Vector.replicate 17 0) with
    scramble := Vector.ofFn fun k : Fin 31 =>
      if h : k.val < 16 then { source := .logical ⟨12 + k.val, by omega⟩, invert := k.val == 0 }
      else if h : k.val < 28 then { source := .logical ⟨k.val - 16, by omega⟩ }
      else { source := .logical ⟨k.val, by omega⟩ }
    selector := Vector.ofFn fun j : Fin 8 =>
      if h : j.val < 4 then .row ⟨j.val, by omega⟩ else .col ⟨j.val - 4, by omega⟩
    topology := Vector.ofFn fun k : Fin 256 => if k.val = 83 then 0xFFFF else 0 }

/-- Worked case of section 1.6: address and data translation. -/
theorem test_translation :
    let s : State := { State.reset with tables := translation }
    s.rowOf 0x00012345 = 19 ∧ s.colOf 0x00012345 = 837 ∧ s.regionOf 0x00012345 = 0 ∧ s.topologyIndex 19 837 = 83 ∧
    s.physicalData 0x00012345 0x00FF = 0xFF00 ∧
    s.rowOf 0x7ABCDEF0 = 43980 ∧ s.colOf 0x7ABCDEF0 = 3824 ∧ s.regionOf 0x7ABCDEF0 = 7 ∧ s.topologyIndex 43980 3824 = 12 := by
  decide +kernel

/-- Worked case of section 1.7: strobe codes (-40 is 0xD8, -128 is 0x80). -/
theorem test_strobe_codes :
    let set4 : TimingSet := { base := 600 }
    let set9 : TimingSet := { base := 1000, eye := .late }
    let set2 : TimingSet := { base := 20 }
    let trim0 : Trim := { early := 0xD8, late := 10, phase := 0 }
    let trim1 : Trim := { early := 5, late := 50, phase := 0 }
    let trim2 : Trim := { early := 0, late := 0x80, phase := 0 }
    [set4, set9, set2].map (strobeCode · trim0) = [560, 1010, 0] ∧ strobeLimited set2 trim0 = true ∧
    [set4, set9, set2].map (strobeCode · trim1) = [605, 1023, 25] ∧ strobeLimited set9 trim1 = true ∧
    [set4, set9, set2].map (strobeCode · trim2) = [600, 872, 20] ∧ strobeLimited set9 trim2 = false := by decide +kernel

/-- Worked case of section 1.4: cycle numbers across a wrap. -/
theorem test_cycle_numbers :
    let e5 : Expander := [65533, 65534, 65535, 0].foldl Expander.track { gaps := 5 }
    e5 = { last := 0, upper := 1, start := false, gaps := 5 } ∧
    e5.track 2 = { last := 2, upper := 1, start := false, gaps := 6 } := by decide +kernel

/-- Worked case of section 1.2: a timing set write that runs off the end of the table. -/
theorem test_write_timing_off_the_end :
    let r := live.writeTable false 1 14 3
      ([0x00, 210, 0x02, 0x80, 1, 0x00, 220, 0x04, 0xB0, 0, 0x00, 230, 0x02, 0xBC, 0] ++ zeros 8)
    r.status = .badIndex ∧ r.applied = 2 ∧ r.clamped = true ∧
    r.state.tables.timing.get 14 = { drive := 210, base := 640, eye := .late } ∧
    r.state.tables.timing.get 15 = { drive := 220, base := 1023, eye := .early } := by decide +kernel

/-- The six sites of the worked case of section 1.8. -/
def sixSites : State :=
  let q (n : Nat) : List Entry := (List.range n).map fun j => entry (BitVec.ofNat 16 (40 - n + j)) 0
  let s := opened { live with expander := { last := 39, start := false } }
  let s := withSite s 0 (enabled (q 3))
  let s := withSite s 1 { enabled (q 64) with counts := { skipped := 2 }, flags := { coverageGap := true } }
  let s := withSite s 2 { enabled (q 5) with hold := .pending }
  let s := withSite s 3 { enabled [] with hold := .granted, command := .park }
  withSite s 4 { condition := .dropped .headFault }

/-- Worked case of section 1.8: one READ cycle across six sites. -/
theorem test_read_across_six_sites :
    let t := after (.cycleFrame (readOf 40)) sixSites
    [0, 1, 2, 3, 4, 5].map (fun i => ((t.site i).queue.length, (t.site i).counts.skipped, (t.site i).flags.coverageGap)) =
      [(4, 0, false), (64, 3, true), (5, 1, true), (0, 0, false), (0, 0, false), (0, 0, false)] ∧
    [0, 1, 2, 3, 4, 5].map (fun i => (t.site i).command) = [.read 0 0 0 0 0 40, .nop, .nop, .park, .park, .park] := by
  decide +kernel

/-- R17: physical bits 28 and 30 at the constant 1 make region 5, which the READ and the WRITE carry; the word of section 10.4 has no bits for it. -/
theorem test_commands_carry_the_region :
    let one : ScrambleEntry := { source := .const1, invert := false }
    let s := withSite live 2 (enabled [])
    let s : State := { s with tables := { s.tables with scramble := (s.tables.scramble.set 28 one).set 30 one } }
    ((after (.cycleFrame (readOf 40)) s).site 2).command = .read 0 0 5 0 0 40 ∧
    s.writeCommand (readOf 40) = .write 0 0 5 0 0 ∧ (s.writeCommand (readOf 40)).word = (live.writeCommand (readOf 40)).word := by
  decide +kernel

/-- R155: a bad frame from the part below is counted while CRST_N is held asserted; R173: a good one is not taken. -/
theorem test_return_frames_while_the_line_is_held :
    let s : State := { live with link := { live.link with crst := true } }
    (after (.returnFrameReceived { mkFrame 0x81 [] with check := (mkFrame 0x81 []).check + 1 }) s).ret.checkErrors = 1 ∧
    (after (.returnFrameReceived (mkFrame 0x81 [])) s).ret.fifo = [] := by decide +kernel

/-- Worked case of section 3.2: matching with gaps in the tags, its first and its third word. -/
theorem test_matching :
    let s := withSite (opened live) 2 (enabled [entry 200 0, entry 201 0, entry 203 0, entry 204 0])
    let t := (after (.readDataWord 2 201 0) s).site 2
    let v := (after (.readDataWord 2 205 0) (withSite (opened live) 2 (enabled [entry 203 0, entry 204 0]))).site 2
    t.queue.map (·.tag) = [203, 204] ∧ t.counts.lost = 1 ∧ t.counts.strays = 0 ∧ t.counts.compares = 1 ∧
    t.flags.coverageGap = true ∧ v.queue = [] ∧ v.counts.lost = 2 ∧ v.counts.strays = 1 := by decide +kernel

/-- The same across the wrap of the tags: a word with tag 0 at 65534, 65535, 0, 1. -/
theorem test_matching_across_the_wrap :
    let s := withSite (opened live) 2 (enabled [entry 65534 0, entry 65535 0, entry 0 0, entry 1 0])
    let t := (after (.readDataWord 2 0 0) s).site 2
    t.queue.map (·.tag) = [1] ∧ t.counts.lost = 2 ∧ t.counts.compares = 1 := by decide +kernel

/-- Worked compare of section 3.4: expected 0xFF00, returned 0xFB00, mask 0x0FFF. -/
theorem test_fail_bits : failBitsOf { entry 0 0 with expected := 0xFF00, mask := 0x0FFF } 0xFB00 = 0x0400 := by decide +kernel

/-- Worked case of section 3.8: expiry at age 25 with a return latency of 16, then its late word a stray. -/
theorem test_expiry :
    let s := withSite (opened live) 11 (enabled [entry 900 24, entry 901 23, entry 902 22])
    let t := (after (.idleFrame (zeros 29)) s).site 11
    t.queue.map (fun e => (e.tag, e.age)) = [(901, 24), (902, 23)] ∧ t.counts.lost = 1 ∧ t.flags.coverageGap = true := by
  decide +kernel

/-- A fail enters a full ring over the oldest of the eight (R52). -/
theorem test_ring :
    let r (n : Half) : RingEntry := { ext := 0, region := 0, row := n, col := 0, failBits := 1, mark := false }
    (pushRing [r 0, r 1, r 2, r 3, r 4, r 5, r 6, r 7] (r 8)).map (·.row) = [1, 2, 3, 4, 5, 6, 7, 8] := by decide +kernel

/-- Worked case 1 of section 4.5: the bound. -/
theorem test_repair_bound :
    Record.after { sr := 2, sc := 2 } [(5, 9), (5, 12), (5, 20), (7, 9), (8, 9), (10, 3), (11, 4), (12, 6), (5, 30)] =
      { state := .unrepairable, loadedRows := 2, loadedCols := 2, rr := 1, rc := 1, mustRows := [5], mustCols := [9]
        sparse := [(10, 3), (11, 4)], cause := some (12, 6) } := by decide +kernel

/-- Worked case 2 of section 4.5: a cascade. -/
theorem test_repair_cascade :
    Record.after { sr := 2, sc := 2 } [(1, 4), (2, 4), (6, 10), (6, 11), (6, 12)] =
      { state := .repairable, loadedRows := 2, loadedCols := 2, rr := 1, rc := 1, mustRows := [6], mustCols := [4]
        sparse := [], cause := none } := by decide +kernel

/-- Worked case 3 of section 4.5: a chained cascade that uses every spare, then a proof. -/
theorem test_repair_chained_cascade :
    Record.after { sr := 1, sc := 2 } [(3, 5), (3, 6), (4, 10), (4, 11), (9, 5), (4, 20), (17, 6), (3, 8)] =
      { state := .unrepairable, loadedRows := 1, loadedCols := 2, rr := 0, rc := 0, mustRows := [4], mustCols := [5, 6]
        sparse := [], cause := some (3, 8) } := by decide +kernel

/-- The phases of a list of runs, as a scan result. -/
def phases (runs : List (Nat × Nat)) : BitVec 64 :=
  (List.range 64).foldl (fun v p => if runs.any fun r => r.1 ≤ p && p ≤ r.2 then v ||| (1#64 <<< p) else v) 0

/-- Worked case of section 6.5: the window rule. -/
theorem test_window_rule :
    [[(17, 30), (40, 43)], [(3, 10), (40, 47)], [(58, 63), (0, 2)], [(0, 4), (60, 63)], [(21, 31)], []].map
      (fun runs => foundPhase (phases runs)) = [some 23, some 6, some 60, none, some 26, none] := by decide +kernel

/-- Worked case of section 6.4: the order table of length 5, index 4, site 9 DISABLED; then none eligible. -/
theorem test_order_walk :
    let s : State := { State.reset with
      tables := { State.reset.tables with
        order := Vector.ofFn fun k : Fin 16 => [3, 7, 3, 12, 9].getD k.val 0, orderLength := 5 }
      cal := { count := 3, running := true, due := true, index := 4 } }
    let on := withSite (withSite (withSite s 3 (enabled [])) 7 (enabled [])) 12 (enabled [])
    let t := after .calibrationRunStart on
    let v := after .calibrationRunStart s
    t.cal.target = some 3 ∧ t.cal.index = 1 ∧ t.cal.spare = .training ∧ t.cal.due = false ∧
    v.cal.target = none ∧ v.cal.index = 4 ∧ v.cal.due = false := by decide +kernel

/-- Worked case of section 6.3: ticks with a reload value of 3, and START loading it. -/
theorem test_interval :
    let s : State := { live with
      tables := { live.tables with reload := 3 }
      cal := { count := 2, spare := .committed, target := some 0 } }
    (after .calibrationTick s).cal.count = 2 ∧ (after (.calControlStart all 0 (zeros 24)) s).cal.count = 3 ∧
    (after .calibrationTick { s with cal := { s.cal with running := true, count := 1 } }).cal.count = 3 ∧
    (after .intervalCountExpiry { s with cal := { s.cal with running := true, count := 1 } }).cal.due = true := by
  decide +kernel

/-- Worked case of section 7.2: the confirming ALIGN frame at slot 18, and a frame with another K there. -/
theorem test_alignment :
    let s : State := { State.reset with link := { state := .seek, candidate := some (8, 7), signal := true } }
    let t := after (.alignFrame 8 42 (zeros 27)) s
    t.link.state = .live ∧ t.link.k = some 8 ∧ t.link.lastCount = some 42 ∧ t.link.position = some 0 ∧ t.syqOut = false ∧
    (after (.alignFrame 16 42 (zeros 27)) s).link.candidate = some (16, 0) := by decide +kernel

/-- Worked case of section 7.3: the fourth check error in a row is a link loss, the third with a miss is none. -/
theorem test_check_errors :
    let s (position miss errors : Nat) (count : Half) : State :=
      { live with link := { live.link with position := some position, missRun := miss, errorRun := errors, checkErrors := count } }
    let bad := poisoned (mkFrame 0x02 [])
    let t := after (.badFrame bad) (s 7 0 2 16)
    let v := after (.badFrame bad) (s 0 1 3 17)
    t.link.state = .live ∧ t.link.missRun = 1 ∧ t.link.errorRun = 3 ∧ t.link.checkErrors = 17 ∧ t.out.down = some bad ∧
    v.link.state = .seek ∧ v.link.checkErrors = 18 ∧ v.notice.lossOutstanding = true := by decide +kernel

/-- Section 7.4: one damaged sequence byte is one exercise error, in a bad frame too. -/
theorem test_exercise_errors :
    let sequence := (exerciseSequence 0x1234).set 5 0
    ((exerciseSequence 0x1234).getD 5 0 ≠ 0) ∧
    (after (.exerciseFrame 0x1234 sequence) live).link.exerciseErrors = 1 ∧
    (after (.badFrame (poisoned (mkFrame 4 ([0x12, 0x34] ++ sequence)))) live).link.exerciseErrors = 1 := by decide +kernel

/-- Worked case of section 7.6: broadcasts of ENUMERATE with p = 1 and p = 8. -/
theorem test_enumerate :
    let t := after (.enumerate all 1 (zeros 25)) live
    let v := after (.enumerate all 8 (zeros 25)) live
    t.chainPos = some 1 ∧ t.out.down = some (mkFrame 3 [0x0F, 1, 7, 2]) ∧ t.ret.responses.map (·.body.take 4) = [[1, 7, 1, 0]] ∧
    v.chainPos = none ∧ v.out.down = some (mkFrame 3 [0x0F, 1, 7, 8]) ∧ v.ret.responses.map (·.body.take 4) = [[15, 7, 1, 5]] := by
  decide +kernel

/-- A frame of the return link. -/
def up (n : Byte) : Frame := mkFrame 0x83 [4, n]

/-- Worked case of section 8.2: the fifth arrival asserts HOF_OUT; the slot of step 12 releases it. -/
theorem test_hold_off :
    let five : State := { live with ret := { fifo := [up 1, up 2, up 3, up 4] } }
    let three : State := { live with ret := { fifo := [up 4, up 5, up 6], hofOut := true } }
    (after (.returnFrameReceived (up 5)) five).ret.hofOut = true ∧ (after .returnFrameSlot three).ret.hofOut = false ∧
    (after .returnFrameSlot three).out.up = some (up 4) := by decide +kernel

/-- Worked case of section 8.2: held off, IDLE; both waiting, the alternation bit; responses before reports. -/
theorem test_arbiter :
    let s (turn : Side) (hofIn : Bool) : State :=
      { live with ret := { fifo := [up 1], responses := [up 2], reports := [up 3], turn := turn, hofIn := hofIn } }
    (after .returnFrameSlot (s .passThrough true)).out.up = some (mkFrame 0 [3]) ∧
    (after .returnFrameSlot (s .passThrough false)).out.up = some (up 1) ∧
    (after .returnFrameSlot (s .passThrough false)).ret.turn = .localSide ∧
    (after .returnFrameSlot (s .localSide false)).out.up = some (up 2) := by decide +kernel

/-- Worked case of section 8.5, step 8: the freed place takes the oldest pending notice, built with the flags as they stand. -/
theorem test_pending_notice :
    let s : State := { live with
      ret := { reports := List.replicate 32 (up 1), turn := .localSide }
      notice := { flags := 0x1E, mask := 0xFD, waiting := [.siteDropped, .laneDegraded, .reportDropped] } }
    let t := after .returnFrameSlot s
    t.notice.waiting = [.laneDegraded, .reportDropped] ∧ t.ret.reports.length = 32 ∧
    t.ret.reports.getLast?.map (·.body.take 4) = some [3, 2, 0x1E, 0x1C] := by decide +kernel

/-- Worked case of section 9.8, steps 1 and 2: with three responses queued a request is executed, with four it is lost and a notice enters. -/
theorem test_full_response_queue :
    let s (n : Nat) : State := { live with
      ret := { responses := List.replicate n (up 1), reports := [up 2, up 3] }, notice := { mask := 0x80 } }
    let one (c : Instr) (n : Nat) : State := after c (s n)
    let write : Instr := .writeTable all 1 0 2 (zeros 23)
    (one (.readSiteCounts all 4 0 (zeros 24)) 3).ret.responses.length = 4 ∧
    (one write 4).ret.responses.length = 4 ∧ (one write 4).ret.reports.length = 3 ∧ (one write 4).notice.flags = 0x80 ∧
    (one (.readStatus all (zeros 26)) 3).notice.flags = 0 := by decide +kernel

/-- Worked case of section 2.4: HOLD_REQUEST with entries waiting is PENDING; the last entry's return grants it. -/
theorem test_hold :
    let s := withSite (opened live) 7 (enabled [entry 102 0])
    let p := withSite (opened live) 7 { enabled [entry 102 0] with hold := .pending }
    ((after (.holdRequestWord 7) s).site 7).hold = .pending ∧ ((after (.readDataWord 7 102 0) p).site 7).hold = .granted ∧
    (after (.readDataWord 7 102 0) p).out.commands = [(7, .holdGrant), (7, .park)] ∧
    ((after (.holdReleaseWord 7) p).site 7).hold = .free := by decide +kernel

/-- Worked case of section 2.6: a head fault during a pass. -/
theorem test_head_fault :
    let s := withSite (opened live) 9 { enabled [entry 1 0, entry 2 0] with current := 0x0B, snapshot := 0x0B, dropOn := true }
    let t := after (.statusWord 9 0x0D) s
    (t.site 9).condition = .dropped .headFault ∧ (t.site 9).queue = [] ∧ (t.site 9).counts.lost = 0 ∧
    (t.site 9).changed = true ∧ (t.site 9).flags.coverageGap = false ∧ t.notice.flags = 0x06 ∧
    ((after (.readHeadStatus all 9 1 (zeros 24)) t).site 9).changed = false := by decide +kernel

/-- R69 and R96: the last compare of a drain fails, its drop discards the counted entry left, and SITE_DROPPED enters before the summaries; no order is open. -/
theorem test_drop_of_the_last_compare_precedes_the_summaries :
    let s := withSite { live with pass := { state := .closing, number := 1 }, notice := { mask := 4 } } 9
      { enabled [entry 1 0, entry 2 0] with dropOn := true }
    let t := after (.readDataWord 9 1 1) s
    (t.site 9).condition = .dropped .unrepairable ∧ (t.site 9).queue = [] ∧
    t.ret.reports.map (·.kind) = 0x82 :: List.replicate 16 0x84 ∧ t.pass.state = .closed ∧ t.draws = 0 := by decide +kernel

/-- SET SITES enables a site whose head reports no fault, drops one that does, and disables with COVERAGE_GAP in a pass (section 2.3). -/
theorem test_set_sites :
    let s := withSite (withSite (opened live) 0 (enabled [entry 5 0])) 2 { current := 0x04 }
    let t := after (.setSites all 0x0006 0x0002 (zeros 22)) s
    [0, 1, 2].map (fun i => (t.site i).condition) = [.disabled, .enabled, .dropped .headFault] ∧
    (t.site 0).flags.coverageGap = true ∧ (t.site 0).queue = [] ∧ (t.site 1).dropOn = true ∧ t.notice.flags = 0x04 ∧
    t.ret.responses.map (fun f => (f.body.drop 4).take 4) = [[0x34, 0, 0, 0]] := by decide +kernel

/-- OPEN PASS loads the records, and is refused while the pass is OPEN (section 5.2). -/
theorem test_open_pass :
    let s : State := { live with tables := { live.tables with region := Vector.replicate 8 { sr := 2, sc := 1 } } }
    let t := after (.openPass all 33 (zeros 25)) s
    t.pass = { state := .opened, number := 33 } ∧ ((t.site 4).records.get 7).rr = 2 ∧ ((t.site 4).records.get 7).rc = 1 ∧
    (after (.openPass all 34 (zeros 25)) t).pass.number = 33 := by decide +kernel

/-- CLOSE PASS with nothing outstanding: sixteen summaries in site order and the pass CLOSED (section 5.5). -/
theorem test_close_pass :
    let t := after (.closePass all (zeros 26)) (opened live)
    t.pass = { state := .closed, number := 1 } ∧ t.ret.reports.length = 16 ∧ t.notice.flags = 0x20 ∧
    t.ret.reports.map (fun f => f.body.getD 1 0) = (List.range 16).map (BitVec.ofNat 8 ·) := by decide +kernel

/-- A drain that ends with 20 reports queued: twelve summaries enter, the rest wait at site 12; SUMMARY_ENQUEUE takes the next free place (section 5.5). -/
theorem test_drain_and_summaries :
    let s (n : Nat) : State := { live with pass := { state := .closing, number := 1 }, ret := { reports := List.replicate n (up 1) } }
    (after .drainComplete (s 20)).pass.summary = some 12 ∧ (after .drainComplete (s 20)).ret.reports.length = 32 ∧
    (after .summaryEnqueue { s 31 with pass := { state := .closing, number := 1, summary := some 14 } }).pass.summary = some 15 ∧
    (after .summaryEnqueue { s 31 with pass := { state := .closing, number := 1, summary := some 15 } }).pass.state = .closed := by
  decide +kernel

/-- RESYNC takes link loss after its response; broadcast it is refused (section 7.7). -/
theorem test_resync :
    let mine : Ctl := { addr := 3, tag := 5 }
    (after (.resync mine (zeros 26)) live).link.state = .seek ∧
    (after (.resync mine (zeros 26)) live).ret.responses.map (fun f => f.body.take 7) = [[3, 5, 2, 0, 2, 8, 9]] ∧
    (after (.resync all (zeros 26)) live).link.state = .live := by decide +kernel

/-- RESET PART keeps the position and reports its cause; CRST_N makes the part unassigned (sections 7.9 and 9.6). -/
theorem test_resets :
    let t := after (.resetPart all (zeros 26)) (opened live)
    let v := after .crstAsserted (opened live)
    t.chainPos = some 3 ∧ t.cause = .chainRequest ∧ t.pass.state = .idle ∧ t.link.state = .live ∧
    v.chainPos = none ∧ v.cause = .chainLine ∧ v.link.state = .down ∧
    (after .powerOnReset v).cause = .powerOn := by decide +kernel

/-- The last word of a training scan that has passed phases 17 to 30, on the lane of site 5: the found phase is 23 (sections 6.5 and 6.6). -/
theorem test_training_scan :
    let scan : Scan := { words := 1023, agreed := true, passed := phases [(17, 30)] }
    let s := withSite { live with cal := { count := 9, running := true, spare := .training, target := some 5, scan := scan } }
      5 (enabled [])
    let t := after (.trainingScanEnd [⟨ReturnWord.idle.word, 0⟩]) s
    t.cal.found = some 23 ∧ (t.site 5).lane = .shadowed ∧ t.sparePhase = 23 := by decide +kernel

/-- R127: a carrier word of bad parity fails a soak and is counted, even where both samplers recovered it; so does the last one a third attempt; a bad word at another site is counted alone. -/
theorem test_lane_word_error_fails_a_soak :
    let soak : Cal :=
      { count := 9, spare := .standingIn, target := some 5, found := some 4, working := some 5, words := 3, soakLength := 256 }
    let s (n : Nat) : State := withSite { live with cal := { soak with attempts := n } } 5 { enabled [] with lane := .soak }
    let t := after (.laneWordError 5 ⟨0, 0⟩) (s 0)
    let v := after (.laneWordError 6 ⟨0, 0⟩) (s 0)
    (t.site 5).laneErrors = 1 ∧ (t.site 5).lane = .offlineCal ∧ t.cal.attempts = 1 ∧
    ((after (.laneWordError 5 ⟨0, 0⟩) (s 2)).site 5).lane = .degraded ∧
    (v.site 6).laneErrors = 1 ∧ (v.site 5).lane = .soak ∧ v.cal = (s 0).cal := by decide +kernel

/-- R109 and R127: in shadow agreement a carrier word of bad parity is counted and sets the run to 0; one of an unknown kind is counted, and agrees where the other sampler recovered the same. -/
theorem test_lane_word_error_in_shadow_agreement :
    let shadow : Cal := { count := 9, spare := .training, target := some 5, found := some 4, words := 20, run := 20 }
    let s : State := withSite { live with cal := shadow } 5 { enabled [] with lane := .shadowed }
    let t (w : BitVec 36) := after (.laneWordError 5 ⟨w, w⟩) s
    ((t 0).cal.words, (t 0).cal.run, ((t 0).site 5).laneErrors) = (21, 0, 1) ∧
    ((t 7).cal.words, (t 7).cal.run, ((t 7).site 5).laneErrors) = (21, 21, 1) := by decide +kernel

/-- CLEAR FLAGS, SET REPORTING and an unknown request code (sections 8.5, 8.6 and 9.2). -/
theorem test_requests :
    let s : State := { live with notice := { flags := 0xFF } }
    (after (.clearFlags all 0x0F (zeros 25)) s).notice.flags = 0xF0 ∧
    (after (.setReporting all 0x8001 0x55 (zeros 23)) s).ret.rawLog = 0x8001 ∧
    (after (.setReporting all 0x8001 0x55 (zeros 23)) s).notice.mask = 0x55 ∧
    (after (.unknownRequest all 0x77 (zeros 26)) s).ret.responses.map (fun f => f.body.take 4) = [[3, 7, 0x77, 4]] ∧
    (after (.controlFrameNotTaken { addr := 8, tag := 1 } 0x77 (zeros 26)) s).ret.responses = [] := by decide +kernel

end Sys2Proof.Tests
end

