-- ==== Sys2Proof/Tests/Witnesses.lean ====
section
/-! SUPPORT. For each statement with hypotheses, concrete states and operands that meet them, clause by clause, at the values where the clauses meet. -/

namespace Sys2Proof.Tests

open Machine

set_option Elab.async false

/-- A part that is LIVE, with the pass in a state. -/
def inState (p : PassState) : State := { live with pass := { state := p, number := 1 } }

/-- A part in SEEK with a candidate. -/
def seeking (c : Option (Byte × Nat)) : State := { State.reset with link := { state := .seek, candidate := c, signal := true } }

/-- A part whose spare is in a state with site 5 its target. -/
def running (spare : SpareState) (lane : LaneState) (cal : Cal) : State :=
  withSite { live with cal := { cal with spare := spare, target := some 5 } } 5 { enabled [] with lane := lane }

/-- A queue with a command waiting, and an empty one. -/
theorem witness_StepRunsTheFrontCommand :
    ({ State.reset with pending := [.signalPresent] } : State).pending = .signalPresent :: [] ∧ State.reset.pending = [] := by
  decide +kernel

/-- The line released; RESET PART executed; OPEN PASS executed in IDLE and in CLOSED. -/
theorem witness_ResetItemsOfPassLinkAndControl :
    State.reset.link.crst = false ∧ live.executes all 0x03 = true ∧ ctlTarget all = 15 ∧
    (inState .idle).executes all 0x30 = true ∧ ((inState .idle).controlSlot all 0x30 [5]).pass.state = .idle ∧
    (inState .closed).executes all 0x30 = true ∧ ((inState .closed).controlSlot all 0x30 [5]).pass.state = .closed := by
  decide +kernel

/-- The same, for the records and the queues. -/
theorem witness_RecordsQueuesAndFlagsAfterResets :
    live.link.crst = false ∧ live.executes all 0x03 = true ∧ (inState .idle).executes all 0x30 = true ∧
    ((inState .idle).controlSlot all 0x30 (5 :: zeros 25)).pass.state = .idle := by decide +kernel

/-- The same, and the line held asserted. -/
theorem witness_CalibrationAndReturnLinkAfterResets :
    live.link.crst = false ∧ live.executes all 0x03 = true ∧ (after .crstAsserted live).link.crst = true := by decide +kernel

/-- The same, for the ports and the tables. -/
theorem witness_SitePortsTablesAndNumberingAfterResets : live.link.crst = false ∧ live.executes all 0x03 = true := by
  decide +kernel

/-- DOWN with the line released, DOWN with it held, with and without signal; SEEK. -/
theorem witness_ReceiverMovesBetweenDownAndSeek :
    State.reset.link.state = .down ∧ State.reset.link.crst = false ∧ live.link.state ≠ .down ∧
    (let s : State := { State.reset with link := { crst := true, signal := true } }
     s.link.crst = true ∧ s.link.state = .down ∧ s.link.signal = true) ∧
    (let s : State := { State.reset with link := { crst := true } }
     s.link.state = .down ∧ s.link.crst = true ∧ s.link.signal = false) ∧
    (seeking none).link.state = .seek := by decide +kernel

/-- LIVE; RESYNC executed when addressed; the fourth bad frame in a row, and the second miss; a flush that removes the last counted entry of a drain, and one of empty queues. -/
theorem witness_LinkLossEffects :
    live.link.state = .live ∧ live.executes { addr := 3, tag := 5 } 0x02 = true ∧ ctlTarget { addr := 3, tag := 5 } ≠ 15 ∧
    (let s : State := { live with link := { live.link with errorRun := 3 } }
     let f := poisoned (mkFrame 0x02 [])
     wholeFrame f = true ∧ s.link.state = .live ∧ (s.link.count (arrivalOf f)).lossDue = true) ∧
    (let s : State := { live with link := { live.link with missRun := 1 } }
     let f := mkFrame 0x01 [8, 1]
     wholeFrame f = true ∧ s.link.state = .live ∧ (s.link.count (arrivalOf f)).lossDue = true) ∧
    (let s := withSite (inState .closing) 2 (enabled [entry 5 0])
     s.link.state = .live ∧ s.draining = true ∧ (s.site 2).queue ≠ [] ∧ (after .signalLost s).pass.state = .closed) ∧
    (∀ i : SiteNo, (live.site i).queue = []) := by decide +kernel

/-- ALIGN frames with K 4 and K 32 at their distance, one a slot early, one with K 3, one with K 33, a bad frame; with a loss outstanding and without. -/
theorem witness_SeekSearchesForAlignment :
    (∀ i : SiteNo, ((seeking (some (4, 3))).site i).queue = []) ∧ (seeking (some (4, 3))).link.state = .seek ∧
    wholeFrame (mkFrame 0x01 [4, 1]) = true ∧ arrivalOf (mkFrame 0x01 [4, 1]) = .align 4 1 ∧
    (seeking (some (4, 3))).link.candidate.map (fun x => (x.1, x.2 + 1)) = some (4, (4#8).toNat) ∧
    (seeking (some (32, 31))).link.candidate.map (fun x => (x.1, x.2 + 1)) = some (32, (32#8).toNat) ∧
    arrivalOf (mkFrame 0x01 [32, 1]) = .align 32 1 ∧
    (seeking (some (4, 2))).link.candidate.map (fun x => (x.1, x.2 + 1)) ≠ some (4, (4#8).toNat) ∧
    arrivalOf (mkFrame 0x01 [3, 1]) = .align 3 1 ∧ arrivalOf (mkFrame 0x01 [33, 1]) = .align 33 1 ∧
    arrivalOf (poisoned (mkFrame 0x01 [4, 1])) = .bad ∧ (seeking none).notice.lossOutstanding = false ∧
    ({ seeking none with notice := { lossOutstanding := true } } : State).notice.lossOutstanding = true := by decide +kernel

/-- An in-place ALIGN frame, an IDLE frame at position 0, a bad frame, and a CONTROL frame that the part does not take. -/
theorem witness_LiveFramesAreCounted :
    live.link.state = .live ∧ live.link.k = some 8 ∧ live.link.position = some 2 ∧
    (let s : State := { live with link := { live.link with position := some 7 } }
     s.link.position = some 7 ∧ s.link.inPlace (.align 8 1) = true ∧ s.link.misses .idle = true ∧ s.link.misses .bad = true) ∧
    live.link.misses (.align 8 1) = true ∧ wholeFrame (mkFrame 0x03 [5, 4, 7]) = true ∧ frameGood (mkFrame 0x03 [5, 4, 7]) = true ∧
    live.takes { addr := 5, tag := 7 } = false := by decide +kernel

/-- A frame in DOWN; a bad one, an addressed CONTROL frame and a broadcast ENUMERATE with p = 7 and p = 8 in LIVE; the second miss, by an ENUMERATE at position 0. -/
theorem witness_ForwarderSendsOneFramePerSlot :
    State.reset.link.state = .down ∧ wholeFrame (mkFrame 0 []) = true ∧ live.link.state ≠ .down ∧
    frameGood (poisoned (mkFrame 0 [])) = false ∧ live.chainPos.map Fin.val = some 3 ∧
    wholeFrame (mkFrame 0x03 [0x0F, 0x01, 7, 7]) = true ∧ wholeFrame (mkFrame 0x03 [0x0F, 0x01, 7, 8]) = true ∧
    wholeFrame (mkFrame 0x03 [0x03, 0x01, 7, 8]) = true ∧ live.link.state = .live ∧
    (let s : State := { live with link := { live.link with missRun := 1, position := some 7 } }
     s.link.state = .live ∧ (s.link.count (arrivalOf (mkFrame 0x03 [0x0F, 0x01, 7, 7]))).lossDue = true) := by decide +kernel

/-- A bad frame in SEEK, and in LIVE with a kind byte that is that of EXERCISE and one that is not. -/
theorem witness_BadFramesTravelPoisoned :
    frameGood (poisoned (mkFrame 4 [])) = false ∧ (poisoned (mkFrame 4 [])).kind = 0x04 ∧
    frameGood (poisoned (mkFrame 2 [])) = false ∧ (poisoned (mkFrame 2 [])).kind ≠ 0x04 ∧
    (seeking none).link.state ≠ .down ∧ live.link.state = .live ∧ live.actsOn .bad = true := by decide +kernel

/-- A part with no drain in progress, one draining whose entry reaches its limit of 24 without passing it, and one draining whose last counted entry passes it. -/
theorem witness_SlotAgesExpiresAndSendsNops :
    live.draining = false ∧
    (let s := withSite (inState .closing) 2 (enabled [entry 5 23])
     s.draining = true ∧
     ∀ i : SiteNo, (ageQueue (s.site i).queue).head?.any (·.past ((s.trim i).latency + 8)) = false) ∧
    (let s := withSite (inState .closing) 2 (enabled [entry 5 24])
     s.draining = true ∧ (ageQueue (s.site 2).queue).head?.any (·.past ((s.trim 2).latency + 8)) = true ∧
     (s.slotOf (mkFrame 0 []) .idle).pass.state = .closed) := by
  decide +kernel

/-- IDLE, ALIGN out of place, EXERCISE and unknown kinds acted on in LIVE. -/
theorem witness_GoodFramesInLive :
    live.actsOn .idle = true ∧ live.actsOn (.align 8 1) = true ∧ live.actsOn .exercise = true ∧ (zeros 27).length = 27 ∧
    live.actsOn .unknown = true := by decide +kernel

/-- Strobe sums of -1, 0, 1023 and 1024. -/
theorem witness_AddressDataAndStrobeTranslation :
    let sum (base : TimingCode) (early : Byte) : Int := (base.toNat : Int) + early.toInt
    sum 0 0xFF < 0 ∧ sum 1 0xFF = 0 ∧ sum 1020 3 = 1023 ∧ 1023 < sum 1020 4 := by decide +kernel

/-- A CYCLE frame acted on, with the start mark set, in sequence, and one number short of it; entries at their limit and past it. -/
theorem witness_CyclesAreNumberedAndExpiryTakesEitherOrder :
    live.actsOn .cycle = true ∧ live.expander.start = true ∧
    (let s : State := { live with expander := { last := 65535, start := false } }
     s.actsOn .cycle = true ∧ s.expander.start = false ∧ (0 : Half).toNat < s.expander.last.toNat ∧
     (0 : Half).toNat = (s.expander.last.toNat + 1) % 65536) ∧
    ((withSite live 2 { enabled [entry 5 24] with hold := .pending }).orderMatters (readOf 6) = false ∧
     ((withSite live 2 { enabled [entry 5 24] with hold := .pending }).ageAll).orderMatters (readOf 6) = true) := by
  decide +kernel

/-- A CYCLE frame acted on while an entry reaches its limit of 24 without passing it. -/
theorem witness_CycleOutcomeAtEachPort :
    let s := withSite (opened live) 2 (enabled [entry 5 23])
    s.actsOn .cycle = true ∧ (∀ i : SiteNo, ∀ e ∈ ageQueue (s.site i).queue, e.past ((s.trim i).latency + 8) = false) ∧
    acceptsRead (ageQueue (s.site 2).queue) 6 = true ∧ acceptsRead (ageQueue (s.site 2).queue) 5 = false := by decide +kernel

/-- A hold PENDING; FREE with an entry at an ENABLED site; FREE with none; FREE at a DISABLED site. -/
theorem witness_HoldIdleAndBadWords :
    ((withSite live 2 { enabled [entry 5 0] with hold := .pending }).site 2).hold ≠ .free ∧
    (let x := (withSite live 2 (enabled [entry 5 0])).site 2
     x.hold = .free ∧ x.condition = .enabled ∧ x.queue ≠ []) ∧
    (let x := (withSite live 2 (enabled [])).site 2
     x.hold = .free ∧ x.queue = []) ∧
    (live.site 2).hold = .free ∧ (live.site 2).condition ≠ .enabled := by decide +kernel

/-- A soak at site 5 whose hand-back waits, with the working phase 7. -/
def handingBack : State :=
  running .standingIn .soak { count := 9, found := some 4, working := some 7, words := 256, soakLength := 256, boundary := some .handBack }

/-- A training at site 5. -/
def trainingAt5 : State := running .training .online { count := 9 }

/-- Runs that a departure of site 5 ends: one whose hand-back waits, and one in training; and one that it does not, where another site leaves. -/
theorem witness_Departs :
    (handingBack.cal.target = some 5 ∧ handingBack.cal.spare = .standingIn ∧ handingBack.cal.boundary = some .handBack ∧
      handingBack.cal.working = some 7) ∧
    (trainingAt5.cal.target = some 5 ∧ trainingAt5.cal.spare = .training) ∧ trainingAt5.cal.target ≠ some 4 ∧
    (handingBack.site 5).condition = .enabled ∧ handingBack.executes all 0x20 = true ∧
    (0#16).getLsbD (5 : SiteNo).val = false ∧
    ((handingBack.controlSlot all 0x20 (be16 0 ++ be16 0 ++ zeros 22)).site 5).condition = .enabled := by decide +kernel

/-- Status bits without HEAD_FAULT, equal to the snapshot and not; with it, at an ENABLED site, at one dropped UNREPAIRABLE and at a DISABLED one; at an ENABLED site that holds the last counted entry of a drain, equal to the snapshot and not. -/
theorem witness_StatusWordsAndHeadFaults :
    (0x0B#8).getLsbD 2 = false ∧ (0#8).getLsbD 2 = false ∧ (0#8) = (live.site 2).snapshot ∧ (0x0B#8) ≠ (live.site 2).snapshot ∧
    (live.site 2).condition = .disabled ∧ (0x04#8).getLsbD 2 = true ∧
    ((withSite live 2 (enabled [])).site 2).condition = .enabled ∧
    ((withSite live 2 { condition := .dropped .unrepairable }).site 2).condition = .dropped .unrepairable ∧
    (let s (snapshot : Byte) := withSite (inState .closing) 2 { enabled [entry 5 0] with snapshot := snapshot }
     (s 0).draining = true ∧ ((s 0).site 2).condition = .enabled ∧ countedIn ((s 0).site 2).queue ≠ 0 ∧
     (0x04#8) ≠ ((s 0).site 2).snapshot ∧ (0x04#8) = ((s 4).site 2).snapshot) := by decide +kernel

/-- SET SITES executed, enabling a site that comes up faulting, with no drain in progress and with one whose last counted entry the disable of another site discards; and with such a disable, or none, but no faulting site. -/
theorem witness_SetSitesMovesConditions :
    let s := withSite live 2 { current := 4 }
    s.executes all 0x20 = true ∧ (0x0004#16).getLsbD (2 : SiteNo).val = true ∧
    ((s.controlSlot all 0x20 (be16 4 ++ be16 0 ++ zeros 22)).site 2).condition = .disabled ∧
    ((s.controlSlot all 0x20 (be16 4 ++ be16 0 ++ zeros 22)).site 2).current.getLsbD 2 = true ∧
    (let s := withSite (withSite (inState .closing) 2 { current := 4 }) 3 (enabled [entry 5 0])
     let u (enable : Half) := s.controlSlot all 0x20 (be16 enable ++ be16 0 ++ zeros 22)
     s.executes all 0x20 = true ∧ (u 4).draining = true ∧ ((u 4).site 2).condition = .disabled ∧
     ((u 4).site 2).current.getLsbD 2 = true ∧ (0x0004#16).getLsbD (3 : SiteNo).val = false ∧
     ((u 4).site 3).condition = .enabled ∧ countedIn ((u 4).site 3).queue ≠ 0 ∧
     (∀ i : SiteNo, (0#16).getLsbD i.val = false) ∧ countedIn ((u 0).site 3).queue ≠ 0) ∧
    (live.controlSlot all 0x20 (zeros 26)).draining = false := by decide +kernel

/-- READ HEAD STATUS executed: first site 15 with one site, 9 with seven, 10 with seven (past the end), 16. -/
theorem witness_ReadHeadStatusReportsAndRearms :
    live.executes all 0x21 = true ∧ ((15#8).toNat ≤ 15 ∧ (15#8).toNat + (1#8).toNat ≤ 16) ∧
    ((9#8).toNat ≤ 15 ∧ (9#8).toNat + (7#8).toNat ≤ 16) ∧ 16 < (10#8).toNat + (7#8).toNat ∧ 15 < (16#8).toNat := by
  decide +kernel

/-- An empty queue; a tag 32768 past the head; a tag between two entries, at a distance of 1 and of 32767. -/
theorem witness_UnmatchedWordsAreStrays :
    (live.site 2).queue.head? = none ∧ 32768 ≤ ((32773 : Half) - (entry 5 0).tag).toNat ∧
    (let s := withSite live 2 (enabled [entry 5 0, entry 7 0])
     (s.site 2).queue = [entry 5 0] ++ [entry 7 0] ∧ ([entry 5 0] ++ [entry 7 0]).head? = some (entry 5 0) ∧
     1 ≤ ((6 : Half) - (entry 5 0).tag).toNat ∧ ((6 : Half) - (entry 5 0).tag).toNat ≤ 32767 ∧
     (∀ e ∈ [entry 5 0], (e.tag - (entry 5 0).tag).toNat < ((6 : Half) - (entry 5 0).tag).toNat) ∧
     (∀ e ∈ [entry 7 0], ((6 : Half) - (entry 5 0).tag).toNat < (e.tag - (entry 5 0).tag).toNat) ∧ s.draining = false) ∧
    (let s := withSite (inState .closing) 2 (enabled [entry 5 0])
     (s.site 2).queue = [entry 5 0] ++ [] ∧ s.draining = true ∧ countedIn [entry 5 0] ≠ 0 ∧ (entry 5 0).counted = true) ∧
    ((32772 : Half) - (entry 5 0).tag).toNat = 32767 := by decide +kernel

/-- The head matched, and an entry 32767 past the head with one before it; the last counted entry of a drain. -/
theorem witness_MatchedWordsAreCompared :
    (let e : Entry := { entry 7 0 with counted := false }
     let s := withSite (inState .closing) 2 (enabled [entry 5 0, e])
     (s.site 2).queue = [entry 5 0] ++ e :: [] ∧ ([entry 5 0] ++ [e]).head? = some (entry 5 0) ∧
     (e.tag - (entry 5 0).tag).toNat ≤ 32767 ∧ e.counted = false ∧ s.draining = true) ∧
    (let s := withSite (opened live) 2 (enabled [entry 5 0])
     (s.site 2).queue = [] ++ entry 5 0 :: [] ∧ ([] ++ [entry 5 0]).head? = some (entry 5 0) ∧
     ((entry 5 0).tag - (entry 5 0).tag).toNat ≤ 32767 ∧ s.draining = false ∧ s.reportRoom = true) ∧
    (let s := withSite (opened live) 2 (enabled [entry 5 0, entry 32772 0])
     (s.site 2).queue = [entry 5 0] ++ entry 32772 0 :: [] ∧ ([entry 5 0] ++ [entry 32772 0]).head? = some (entry 5 0) ∧
     ((entry 32772 0).tag - (entry 5 0).tag).toNat = 32767 ∧
     ∀ o ∈ [entry 5 0], (o.tag - (entry 5 0).tag).toNat < ((entry 32772 0).tag - (entry 5 0).tag).toNat) ∧
    (let s := withSite (opened live) 2 { enabled [entry 5 0] with dropOn := true }
     (s.site 2).verdict ≠ .unrepairable ∧
     Site.verdict { s.site 2 with records := (s.site 2).records.set 0 (((s.site 2).records.get 0).take (1, 2)) } = .unrepairable ∧
     (s.site 2).condition = .enabled ∧ (s.site 2).dropOn = true ∧ (entry 5 0).counted = true) ∧
    (let s := withSite (inState .closing) 2 (enabled [entry 5 0])
     (s.site 2).queue = [] ++ entry 5 0 :: [] ∧ (entry 5 0).counted = true ∧ s.draining = true ∧
     (after (.readDataWord 2 5 0) s).pass.state = .closed) := by decide +kernel

/-- An entry at its limit of 24, and one past it before it; the last counted entry of a drain past it. -/
theorem witness_ExpiredEntriesAreLost :
    (let s := withSite live 2 (enabled [entry 5 24])
     (s.site 2).queue = [] ++ [entry 5 24] ∧ (entry 5 24).age.toNat ≤ (s.trim 2).latency + 8) ∧
    (let s := withSite live 2 (enabled [entry 4 25, entry 5 24])
     (s.site 2).queue = [entry 4 25] ++ [entry 5 24] ∧ (∀ e ∈ [entry 4 25], (s.trim 2).latency + 8 < e.age.toNat) ∧
     (entry 5 24).age.toNat ≤ (s.trim 2).latency + 8 ∧ [entry 4 25] ≠ []) ∧
    (let s := withSite (inState .closing) 2 (enabled [entry 4 25])
     (s.site 2).queue = [entry 4 25] ++ [] ∧ (∀ e ∈ [entry 4 25], (s.trim 2).latency + 8 < e.age.toNat) ∧
     s.draining = true ∧ (after (.entryExpiry 2) s).pass.state = .closed) := by decide +kernel

/-- A frame with a body of 29 bytes. -/
theorem witness_CheckOfAFrame : (mkFrame 0x02 [1]).body.length = 29 := by decide +kernel

/-- The line released and RESET PART executed; budgets of 4; a sound record; a row and a column committed; a fail that proves the region unrepairable. -/
theorem witness_AnalysisRecordsStaySound :
    live.link.crst = false ∧ live.executes all 0x03 = true ∧
    (Record.load { sr := 4, sc := 4 }).sound = true ∧ ((Record.load { sr := 1, sc := 0 }).commitRow 5).isSome = true ∧
    ((Record.load { sr := 0, sc := 1 }).commitCol 5).isSome = true ∧
    ((Record.load { sr := 0, sc := 0 }).take (1, 2)).state = .unrepairable := by decide +kernel

/-- A repair with all of its spares that covers the fails, which force both must repairs. -/
theorem witness_UnrepairableIsProvedAndMustRepairsAreForced :
    ({5, 10} : Finset Half).card ≤ 2 ∧ ({9, 4} : Finset Col).card ≤ 2 ∧
    Covers {5, 10} {9, 4} [(5, 9), (5, 12), (5, 20), (7, 9), (8, 9), (10, 3), (11, 4)] ∧
    (Record.after { sr := 2, sc := 2 } [(5, 9), (5, 12), (5, 20), (7, 9), (8, 9), (10, 3), (11, 4)]).mustRows = [5] := by
  refine ⟨by decide, by decide, ?_, by decide +kernel⟩
  intro p hp
  fin_cases hp <;> simp

/-- Fails that leave a region REPAIRABLE, and the choice of row 10 and column 4 that covers its sparse list. -/
theorem witness_RecordsCoverOrListEveryFail :
    let r := Record.after { sr := 2, sc := 2 } [(5, 9), (5, 12), (5, 20), (7, 9), (8, 9), (10, 3), (11, 4)]
    r.state ≠ .unrepairable ∧ r.sparse = [(10, 3), (11, 4)] ∧
    Covers {10} {4} r.sparse := by
  have h : (Record.after { sr := 2, sc := 2 } [(5, 9), (5, 12), (5, 20), (7, 9), (8, 9), (10, 3), (11, 4)]).sparse =
      [(10, 3), (11, 4)] := by decide +kernel
  refine ⟨by decide +kernel, h, ?_⟩
  rw [h]
  intro p hp
  fin_cases hp <;> simp

/-- An UNREPAIRABLE region and the site it makes UNREPAIRABLE. -/
theorem witness_VerdictIsTheWorstRegionState :
    let r := (Record.load {}).take (1, 2)
    r.state = .unrepairable ∧ ((live.site 2).takeFail 3 (1, 2)).verdict = .unrepairable ∧ (live.site 2).verdict = .clean := by
  decide +kernel

/-- OPEN PASS executed in each pass state. -/
theorem witness_OpenPassAsOneStep :
    ∀ p ∈ [PassState.idle, .opened, .closing, .closed],
      (withSite (inState p) 2 (enabled [entry 5 0])).executes all 0x30 = true ∧
      ((withSite (inState p) 2 (enabled [entry 5 0])).controlSlot all 0x30 (5 :: zeros 25)).pass.state = p := by decide +kernel

/-- CLOSE PASS executed in each pass state, with one counted entry outstanding and with none. -/
theorem witness_ClosePassStartsTheDrain :
    (∀ p ∈ [PassState.idle, .opened, .closing, .closed],
      (withSite (inState p) 2 (enabled [entry 5 0])).executes all 0x31 = true ∧
      ((withSite (inState p) 2 (enabled [entry 5 0])).controlSlot all 0x31 (zeros 26)).pass.state = p) ∧
    ((withSite (inState .opened) 2 (enabled [entry 5 0])).controlSlot all 0x31 (zeros 26)).countedTotal = 1 ∧
    ((inState .opened).controlSlot all 0x31 (zeros 26)).countedTotal = 0 ∧
    ((inState .opened).controlSlot all 0x31 (zeros 26)).pass.summary = none := by decide +kernel

/-- A drain that is complete with 16, 17 and 32 reports queued, one that is not, and none; summary positions 14 and 15 with a place and without. -/
theorem witness_DrainEndsInSummaries :
    let s (n : Nat) : State := { inState .closing with ret := { reports := List.replicate n (up 1) } }
    let w (i : SiteNo) (n : Nat) : State := { s n with pass := { state := .closing, summary := some i } }
    (∀ n ∈ [16, 17, 32], (s n).draining = true ∧ (s n).countedTotal = 0 ∧ (s n).ret.reports.length ≤ 32) ∧
    live.draining = false ∧ (withSite (s 0) 2 (enabled [entry 5 0])).countedTotal ≠ 0 ∧
    (∀ i ∈ [(14 : SiteNo), 15], (w i 31).pass.summary = some i ∧ (w i 31).reportRoom = true ∧ (w i 32).reportRoom = false) := by
  decide +kernel

/-- A list of 1024 word periods. -/
theorem witness_ScanPassesThePhasesThatAgree : (List.replicate 1024 (⟨0, 0⟩ : WordPair)).length = 1024 :=
  List.length_replicate

/-- Windows of 6 phases from phase 10, and of 5. -/
theorem witness_WindowRule : IsWindow (phases [(10, 15)]) 10 6 ∧ IsWindow (phases [(10, 14)]) 10 5 := by
  have run (a b p n : Nat) : PhaseRun (phases [(a, b)]) p n ↔ p + n ≤ 64 ∧ ∀ k < n, (phases [(a, b)]).getLsbD (p + k) = true :=
    Iff.rfl
  have bound (a b : Nat) (m : Nat) (h : ∀ q < 65, ∀ k < 65, (k = m + 1 → q + k ≤ 64 →
      ∃ j < k, (phases [(a, b)]).getLsbD (q + j) = false)) : ∀ q n, PhaseRun (phases [(a, b)]) q n → n ≤ m := by
    intro q n hr
    by_contra hn
    obtain ⟨hq, hp⟩ := (run a b q n).1 hr
    obtain ⟨j, hj, e⟩ := h q (by omega) (m + 1) (by omega) rfl (by omega)
    exact absurd (hp j (by omega)) (by simp [e])
  refine ⟨⟨by decide, ⟨by decide, by decide +kernel⟩, bound 10 15 6 (by decide +kernel), ?_⟩,
    ⟨by decide, ⟨by decide, by decide +kernel⟩, bound 10 14 5 (by decide +kernel), ?_⟩⟩
  · intro q hq
    by_contra hlt
    have h := hq.2 0 (by decide)
    have hb : ∀ q < 10, (phases [(10, 15)]).getLsbD (q + 0) = false := by decide +kernel
    exact absurd h (by rw [hb q (by omega)]; decide)
  · intro q hq
    by_contra hlt
    have h := hq.2 0 (by decide)
    have hb : ∀ q < 10, (phases [(10, 14)]).getLsbD (q + 0) = false := by decide +kernel
    exact absurd h (by rw [hb q (by omega)]; decide)

/-- The rotation STOPPED; RUNNING with counts 2 and 1; an order table of 1 and of 16; a position that is eligible and none. -/
theorem witness_TicksAndRunStarts :
    live.cal.running = false ∧
    (let s (n : Half) : State := { live with cal := { count := n, running := true, due := true } }
     (s 2).cal.running = true ∧ 1 < (s 2).cal.count.toNat ∧ (s 1).cal.count.toNat ≤ 1 ∧ (s 2).cal.due = true ∧
     (s 2).cal.spare = .idle ∧ (s 2).tables.orderLength = 16 ∧
     (∀ j < 16, ¬(((s 2).site ((s 2).tables.order.get (Fin.ofNat 16 (((s 2).cal.index.val + j) % 16)))).condition = .enabled)) ∧
     ((withSite (s 2) 3 (enabled [])).site 3).condition = .enabled ∧ ((withSite (s 2) 3 (enabled [])).site 3).lane = .online) := by
  decide +kernel

/-- A lane word error on the target's lane gives the stage one word, in a state that counts it. -/
theorem witness_Spoils :
    Spoils trainingAt5 5 (.laneWordError 5 ⟨1, 0⟩) [⟨1, 0⟩]
      (trainingAt5.begin.setSite 5 { trainingAt5.site 5 with laneErrors := satAdd (trainingAt5.site 5).laneErrors 1 }) ∧
    trainingAt5.cal.target = some 5 ∧ trainingAt5.cal.spare = .training ∧ (trainingAt5.site 5).lane = .online :=
  ⟨⟨⟨1, 0⟩, rfl, rfl, rfl⟩, by decide +kernel, by decide +kernel, by decide +kernel⟩

/-- A training scan and an offline scan at their last words, with a window and without, at attempt counts 1 and 2; no scan. -/
theorem witness_TrainingAndOfflineScansEnd :
    (∀ i : SiteNo, live.stage ≠ .trainingScan i) ∧ (∀ i : SiteNo, live.stage ≠ .offlineScan i) ∧
    (let scan (v : BitVec 64) : Scan := { words := 1023, agreed := false, passed := v }
     let word : List WordPair := [⟨0, 0⟩]
     let t (v : BitVec 64) := running .training .online { count := 9, scan := scan v }
     let o (n : Nat) (v : BitVec 64) := running .standingIn .offlineCal { count := 9, attempts := n, scan := scan v }
     (t 0).cal.target = some 5 ∧ ((t 0).site 5).lane = .online ∧ (o 1 0).cal.target = some 5 ∧ ((o 1 0).site 5).lane = .offlineCal ∧
     1024 ≤ (word.foldl Scan.compare (t 0).cal.scan).words ∧ foundPhase (word.foldl Scan.compare (t 0).cal.scan).passed = none ∧
     foundPhase (word.foldl Scan.compare (t 0x3F).cal.scan).passed = some 2 ∧
     (running .training .online { count := 9 }).cal.scan.words < 1024 ∧ (o 1 0).cal.attempts + 1 < 3 ∧ 3 ≤ (o 2 0).cal.attempts + 1) := by
  decide +kernel

/-- Shadow agreement at its 64th agreeing word, at its 1024th word without, short of both; the handover due and not. -/
theorem witness_ShadowAgreementAndHandover :
    let good : WordPair := ⟨ReturnWord.idle.word, ReturnWord.idle.word⟩
    let wrong : WordPair := ⟨0, 0⟩
    let s (n r : Nat) (b : Option Boundary) := running .training .shadowed { count := 9, found := some 4, words := n, run := r, boundary := b }
    (∀ i : SiteNo, live.stage ≠ .shadow i) ∧ (s 0 0 none).cal.spare = .training ∧ (s 0 0 none).cal.target = some 5 ∧
    ((s 0 0 none).site 5).lane = .shadowed ∧ 64 ≤ ([good].foldl shadowWord ((s 70 63 none).cal.words, (s 70 63 none).cal.run)).2 ∧
    [good].foldl shadowWord (1022, 62) = (1023, 63) ∧ [wrong].foldl shadowWord (1023, 63) = (1024, 0) ∧
    (s 64 64 (some .handover)).cal.boundary = some .handover ∧ (s 0 0 none).cal.boundary ≠ some .handover ∧
    wordsAgree good = true ∧ wordsAgree wrong = false := by decide +kernel

/-- A soak whose next word disagrees, at attempt counts 1 and 2, one at its last word, one short of it; the hand-back due and not. -/
theorem witness_SoakAndHandBack :
    let good : WordPair := ⟨ReturnWord.idle.word, ReturnWord.idle.word⟩
    let s (n k : Nat) (b : Option Boundary) :=
      running .standingIn .soak { count := 9, found := some 4, working := some 5, attempts := k, words := n, soakLength := 256, boundary := b }
    (∀ i : SiteNo, live.stage ≠ .soak i) ∧ (s 0 0 none).cal.spare = .standingIn ∧ (s 0 0 none).cal.target = some 5 ∧
    ((s 0 0 none).site 5).lane = .soak ∧ ([⟨0, 0⟩].foldl (soakWord 256) (3, false)).2 = true ∧
    (s 0 1 none).cal.attempts + 1 < 3 ∧ 3 ≤ (s 0 2 none).cal.attempts + 1 ∧
    [good].foldl (soakWord 256) (254, false) = (255, false) ∧ [good].foldl (soakWord 256) (255, false) = (256, false) ∧
    (s 256 0 (some .handBack)).cal.boundary = some .handBack ∧ (s 256 0 (some .handBack)).cal.working = some 5 ∧
    (s 255 0 none).cal.boundary ≠ some .handBack ∧ wordsAgree good = true := by decide +kernel

/-- CAL CONTROL executed with the rotation STOPPED and RUNNING, the spare IDLE and not, a DEGRADED lane at an ENABLED site and at a DISABLED one, sites 15 and 16. -/
theorem witness_CalControlActions :
    live.executes all 0x40 = true ∧ live.cal.running = false ∧
    (let s : State := { live with cal := { count := 9, running := true } }
     s.executes all 0x40 = true ∧ s.cal.running = true ∧ s.cal.spare = .idle) ∧
    (let s := running .committed .degraded { count := 9, attempts := 3 }
     s.executes all 0x40 = true ∧ s.cal.spare ≠ .idle ∧ s.cal.target = some 5 ∧ (s.site 5).lane = .degraded ∧
     (s.site 5).condition = .enabled ∧ (s.site 6).lane ≠ .degraded) ∧
    (15#8).toNat = (15 : SiteNo).val ∧ 15 < (16#8).toNat := by decide +kernel

/-- The line released and held; a bad frame, an IDLE frame, another; the FIFO with 7 and with 8. -/
theorem witness_ReturnArrivals :
    let s (n : Nat) : State := { live with ret := { fifo := List.replicate n (up 1) } }
    (s 7).link.crst = false ∧ ({ s 7 with link := { live.link with crst := true } } : State).link.crst = true ∧
    frameGood (poisoned (up 1)) = false ∧ frameGood (mkFrame 0 [4]) = true ∧ (mkFrame 0 [4]).kind = 0x00 ∧
    frameGood (up 1) = true ∧ (up 1).kind ≠ 0x00 ∧ (s 7).ret.fifo.length < 8 ∧ 8 ≤ (s 8).ret.fifo.length := by decide +kernel

/-- Held off; neither side waiting; both waiting with either turn; one waiting; a report with a summary waiting and without. -/
theorem witness_ArbiterServesOneSidePerSlot :
    let s (turn : Side) : State := { live with ret := { fifo := [up 1], responses := [up 2], reports := [up 3], turn := turn } }
    live.link.crst = false ∧ live.ret.fifo = [] ∧ live.ret.responses = [] ∧ live.ret.reports = [] ∧
    ({ live with ret := { hofIn := true } } : State).ret.hofIn = true ∧
    (s .passThrough).ret.hofIn = false ∧ (s .passThrough).ret.fifo = up 1 :: [] ∧ (s .passThrough).ret.turn = .passThrough ∧
    (s .localSide).ret.responses = up 2 :: [] ∧ (s .localSide).ret.turn = .localSide ∧
    (let r : State := { live with ret := { reports := [up 3] } }
     r.ret.responses = [] ∧ r.ret.reports = up 3 :: [] ∧ r.pass.summary = none ∧ r.ret.fifo = []) ∧
    ({ inState .closing with pass := { state := .closing, summary := some 3 } } : State).pass.summary.isSome = true := by
  decide +kernel

/-- A flag set, a flag clear with its mask bit clear and set, a free place with the list empty, a full queue; a pending notice with a place and without. -/
theorem witness_NoticeFlagsAndPendingNotices :
    let s (flags mask : Byte) (n : Nat) (w : List NoticeFlag) : State :=
      { live with ret := { reports := List.replicate n (up 1) }, notice := { flags := flags, mask := mask, waiting := w } }
    (s 0x04 0 0 []).notice.flags.getLsbD NoticeFlag.siteDropped.bit = true ∧
    (s 0 0 0 []).notice.flags.getLsbD NoticeFlag.siteDropped.bit = false ∧
    (s 0 0 0 []).notice.mask.getLsbD NoticeFlag.siteDropped.bit = false ∧
    (s 0 4 31 []).notice.mask.getLsbD NoticeFlag.siteDropped.bit = true ∧ (s 0 4 31 []).ret.reports.length < 32 ∧
    (s 0 4 31 []).pass.summary = none ∧ (s 0 4 31 []).notice.waiting = [] ∧ ¬((s 0 4 32 []).ret.reports.length < 32) ∧
    (s 0 4 31 [.siteDropped]).notice.waiting = NoticeFlag.siteDropped :: [] ∧ (s 0 4 31 [.siteDropped]).reportRoom = true ∧
    (s 0 4 32 [.siteDropped]).reportRoom = false := by decide +kernel

/-- Broadcasts and an addressed request executed; positions 7 and 8; a code and an action that are none of the known. -/
theorem witness_EnumerateAndRefusedRequests :
    live.executes all 0x01 = true ∧ ctlTarget all = 15 ∧ live.executes { addr := 3, tag := 5 } 0x01 = true ∧
    ctlTarget { addr := 3, tag := 5 } ≠ 15 ∧ (7#8).toNat < 8 ∧ 8 ≤ (8#8).toNat ∧ live.executes all 0x02 = true ∧
    live.executes all 0x77 = true ∧ requestCodes.contains (0x77#8).toNat = false ∧ live.executes all 0x40 = true ∧
    5 < (6#8).toNat := by decide +kernel

/-- The three requests executed. -/
theorem witness_StatusAndReportingRequests :
    live.executes all 0x04 = true ∧ live.executes all 0x05 = true ∧ live.executes all 0x06 = true := by decide +kernel

/-- The three requests executed; an unknown table, the last index and the one past it; site 15 and 16, chunk 4 and 5, region 7 and 8, chunk 6 and 7. -/
theorem witness_ReadRequestsOnlyAnswer :
    live.executes all 0x11 = true ∧ live.executes all 0x22 = true ∧ live.executes all 0x23 = true ∧ tableOf 10 = none ∧
    tableOf 8 = some .calParam ∧ (0#8).toNat ≤ TableId.calParam.lastIndex ∧ TableId.calParam.lastIndex < (1#8).toNat ∧
    (15#8).toNat = (15 : SiteNo).val ∧ 15 < (16#8).toNat ∧ (4#8).toNat ≤ 4 ∧ 4 < (5#8).toNat ∧ (7#8).toNat = (7 : RegionNo).val ∧
    7 < (8#8).toNat ∧ (1#8) ≠ 0 ∧ (6#8).toNat ≤ 6 ∧ 6 < (7#8).toNat := by decide +kernel

/-- WRITE TABLE executed with the pass IDLE and OPEN; an unknown and the read-only table, a locked one, a count that fits and one that does not. -/
theorem witness_WriteTableAppliesEntriesInOrder :
    live.executes all 0x10 = true ∧ (inState .opened).executes all 0x10 = true ∧ tableOf 0 = none ∧ tableOf 9 = some .factoryPhase ∧
    tableOf 5 = some .region ∧ TableId.region.lockedInPass = true ∧ TableId.timing.lockedInPass = false ∧ tableOf 1 = some .timing ∧
    (4#8).toNat ≤ 23 / TableId.timing.entrySize ∧ 23 / TableId.timing.entrySize < (5#8).toNat ∧
    ((inState .opened).controlSlot all 0x10 (1 :: 0 :: 1 :: zeros 23)).pass.state = .opened := by decide +kernel

/-- Entries within their sets and outside them: eye selectors, phase actions, sites, sources and selectors at the ends of their ranges; a lane that passes the lane check and one that does not. -/
theorem witness_TableEntriesAreCheckedAndClamped :
    TableId.timing.lastIndex < 16 ∧ (1#8).toNat ≤ 1 ∧ 1 < (2#8).toNat ∧ live.laneCheck 5 = true ∧
    (running .training .online { count := 9 }).laneCheck 5 = false ∧ (15#8).toNat = (15 : SiteNo).val ∧ 15 < (16#8).toNat ∧
    (0x1F#8) = (BitSource.logical 31).code ∧ (0x40#8) = BitSource.const0.code ∧ (0x41#8) = BitSource.const1.code ∧
    (31 < (0x20#8).toNat ∧ (0x20#8) ≠ 0x40 ∧ (0x20#8) ≠ 0x41) ∧ (27#8) = (Selector.col 11).code ∧ 27 < (28#8).toNat := by
  decide +kernel

/-- The tables in range, a writable table and its last index, every lane passing the lane check. -/
theorem witness_ReadRunWritesBackUnchanged :
    tableOf 6 = some .trim ∧ TableId.trim ≠ .factoryPhase ∧ (15#8).toNat ≤ TableId.trim.lastIndex ∧
    ({ live with tables := Tables.powerOn (Vector.replicate 17 0) } : State).tablesInRange = true ∧
    ∀ i : SiteNo, live.laneCheck i = true := by decide +kernel

/-- A taken request with three and with four responses queued. -/
theorem witness_FullResponseQueueLosesRequests :
    let s (n : Nat) : State := { live with ret := { responses := List.replicate n (up 1) } }
    controlOf (.closePass all (zeros 26)) = some (all, 0x31, zeros 26) ∧ (s 3).actsOn (.control (ctlTarget all) 0x31) = true ∧
    (s 3).takes all = true ∧ (s 3).ret.responses.length < 4 ∧ 4 ≤ (s 4).ret.responses.length := by decide +kernel

/-- A CONTROL frame for another position, acted on and not taken. -/
theorem witness_ControlFramesNotTakenAreSlots :
    let c : Ctl := { addr := 4, tag := 5 }
    controlOf (.controlFrameNotTaken c 0x31 (zeros 26)) = some (c, 0x31, zeros 26) ∧
    live.actsOn (.control (ctlTarget c) 0x31) = true ∧ live.takes c = false := by decide +kernel

/-- A well-formed row with its frame, and a whole frame. -/
theorem witness_FramesAndRowsAgree :
    (Instr.openPass all 5 (zeros 25)).wellFormed = true ∧
    encodeFrame (.openPass all 5 (zeros 25)) = some (mkFrame 3 [0x0F, 0x30, 7, 5]) ∧ wholeFrame (mkFrame 3 [0x0F]) = true := by
  decide +kernel

/-- Words of each parity and of the kinds 0 to 5. -/
theorem witness_LaneWordsAgree :
    oddOnes (0#36) = false ∧ oddOnes (0x800000000#36) = true ∧ ((5#36).extractLsb' 0 3).toNat = 5 ∧ oddOnes (1#36) = true ∧
    ((1#36).extractLsb' 0 3).toNat = 1 ∧ oddOnes (2#36) = true ∧ oddOnes (0x800000003#36) = true ∧ oddOnes (4#36) = true := by
  decide +kernel

/-- The state after reset, over a factory store, with a command waiting, meets every invariant, and its step answers a next state. -/
def waiting : State :=
  { State.reset with tables := Tables.powerOn (Vector.replicate 17 0), pending := [.signalPresent] }

/-- Its step answers a next state. -/
theorem waiting_steps : step waiting = .next (after .signalPresent { waiting with pending := [] }) := rfl

theorem witness_TablesStayInRangeAndBuffersBounded :
    waiting.tablesInRange = true ∧ waiting.buffersBounded = true ∧ waiting.queuesInOrder = true ∧
    (withSite waiting 2 (enabled [entry 65535 9, entry 0 9, entry 32766 0])).queuesInOrder = true ∧
    ∃ t, step waiting = .next t := by
  exact ⟨by decide +kernel, by decide +kernel, by decide +kernel, by decide +kernel, _, waiting_steps⟩

theorem witness_StepsKeepRecordsSound :
    waiting.tablesInRange = true ∧ waiting.recordsSound = true ∧ ∃ t, step waiting = .next t := by
  exact ⟨by decide +kernel, by decide +kernel, _, waiting_steps⟩

theorem witness_ParkedSitesStayEmpty :
    waiting.queuesQuiet = true ∧ ∃ t, step waiting = .next t := by
  exact ⟨by decide +kernel, _, waiting_steps⟩

theorem witness_SpareAndLanesStayPaired :
    waiting.calPaired = true ∧ ∃ t, step waiting = .next t := by
  exact ⟨by decide +kernel, _, waiting_steps⟩

theorem witness_SoundPartsStaySound :
    waiting.sound = true ∧ ∃ t, step waiting = .next t := by
  exact ⟨by decide +kernel, _, waiting_steps⟩

/-- A word at another site, and a CONTROL frame commanded by a code that is not that of OPEN PASS or RESET PART. -/
theorem witness_OnlyComparesLoadsAndResetsChangeRecords :
    (3 : SiteNo) ≠ 2 ∧ (0x31 : Byte) ≠ 0x03 ∧ (0x31 : Byte) ≠ 0x30 := by decide

/-- A word at site 2, seen from site 3. -/
theorem witness_SiteEventsTouchNoOtherSite : (3 : SiteNo) ≠ 2 ∧ (2 : SiteNo) = 2 := by decide

end Sys2Proof.Tests
end

section
/-! PROOFS. The analysis record (sections 4.2 and 4.3): what a commit, the cascade, the trial and the taking of a fail can do, once each, and that the rules of R66 and R67 last through them. -/

namespace Sys2Proof.Machine

/-- The rules that hold of a trial at every moment of its processing: the budgets with their must lists (R66), no pair listed twice and none covered (R67). -/
structure Record.Consistent (r : Record) : Prop where
  rows : r.rr + r.mustRows.length = r.loadedRows
  cols : r.rc + r.mustCols.length = r.loadedCols
  rows_le : r.loadedRows ≤ 4
  cols_le : r.loadedCols ≤ 4
  mustRows_nodup : r.mustRows.Nodup
  mustCols_nodup : r.mustCols.Nodup
  sparse_nodup : r.sparse.Nodup
  uncovered : ∀ p ∈ r.sparse, p.1 ∉ r.mustRows ∧ p.2 ∉ r.mustCols

/-- No listed pair forces a repair (R67): what a scan of the cascade looks for is absent. -/
def Record.Unforced (r : Record) : Prop := ∀ p ∈ r.sparse, r.rowCount p.1 ≤ r.rc ∧ r.colCount p.2 ≤ r.rr

/-- A cell is not covered when its row and its column are in neither must list (R64). -/
theorem Record.covered_eq_false (r : Record) (p : Half × Col) :
    r.covered p = false ↔ p.1 ∉ r.mustRows ∧ p.2 ∉ r.mustCols := by
  simp [Record.covered]

/-- The bound of R75 read as an inequality. -/
theorem Record.inBound_iff (r : Record) : r.inBound = true ↔ r.sparse.length ≤ 2 * r.rr * r.rc := by
  simp [Record.inBound]

/-- The check of a record by its parts: the rules of a trial, no forced repair, the bound, and what the state says of cause and lists. -/
theorem Record.sound_iff (r : Record) : r.sound = true ↔
    r.Consistent ∧ r.Unforced ∧ r.inBound = true ∧ (r.cause.isSome = true ↔ r.state = .unrepairable) ∧
    (r.state = .clean → r.mustRows = [] ∧ r.mustCols = [] ∧ r.sparse = []) := by
  have hclean : (r.state ≠ .clean ∨ (r.mustRows = [] ∧ r.mustCols = []) ∧ r.sparse = []) ↔
      (r.state = .clean → r.mustRows = [] ∧ r.mustCols = [] ∧ r.sparse = []) := by tauto
  have hcause : (r.cause.isSome = (r.state == .unrepairable)) ↔ (r.cause.isSome = true ↔ r.state = .unrepairable) := by
    rw [Bool.eq_iff_iff, beq_iff_eq]
  simp only [Record.sound, Bool.and_eq_true, Bool.or_eq_true, decide_eq_true_eq, List.all_eq_true, Bool.not_eq_true',
    beq_iff_eq, bne_iff_ne, List.isEmpty_iff, Record.covered_eq_false, ← Record.inBound_iff, hclean, hcause]
  constructor
  · rintro ⟨⟨⟨⟨⟨⟨⟨⟨⟨⟨⟨hr, hc⟩, hlr⟩, hlc⟩, hmr⟩, hmc⟩, hs⟩, hu⟩, hb⟩, hf⟩, hstate⟩, hempty⟩
    exact ⟨⟨hr, hc, hlr, hlc, hmr, hmc, hs, hu⟩, hf, hb, hstate, hempty⟩
  · rintro ⟨⟨hr, hc, hlr, hlc, hmr, hmc, hs, hu⟩, hf, hb, hstate, hempty⟩
    exact ⟨⟨⟨⟨⟨⟨⟨⟨⟨⟨⟨hr, hc⟩, hlr⟩, hlc⟩, hmr⟩, hmc⟩, hs⟩, hu⟩, hb⟩, hf⟩, hstate⟩, hempty⟩

/-- A row repair is committed exactly when a spare row is left, and spends it (R71). -/
theorem Record.commitRow_eq_some {r t : Record} {x : Half} : r.commitRow x = some t ↔
    r.rr ≠ 0 ∧ t = { r with rr := r.rr - 1, mustRows := r.mustRows ++ [x], sparse := r.sparse.filter (·.1 != x) } := by
  unfold Record.commitRow
  split <;> simp_all [eq_comm]

/-- A column repair is committed exactly when a spare column is left, and spends it (R71). -/
theorem Record.commitCol_eq_some {r t : Record} {y : Col} : r.commitCol y = some t ↔
    r.rc ≠ 0 ∧ t = { r with rc := r.rc - 1, mustCols := r.mustCols ++ [y], sparse := r.sparse.filter (·.2 != y) } := by
  unfold Record.commitCol
  split <;> simp_all [eq_comm]

/-- A committed row repair leaves the cause alone. -/
theorem Record.commitRow_cause {r t : Record} {x : Half} (h : r.commitRow x = some t) : t.cause = r.cause := by
  obtain ⟨-, rfl⟩ := Record.commitRow_eq_some.1 h
  rfl

/-- A committed column repair leaves the cause alone. -/
theorem Record.commitCol_cause {r t : Record} {y : Col} (h : r.commitCol y = some t) : t.cause = r.cause := by
  obtain ⟨-, rfl⟩ := Record.commitCol_eq_some.1 h
  rfl

/-- A scan of the cascade that does not end in a proof commits a forced row, or a forced column, or finds nothing to repair (R74). -/
theorem Record.cascade_succ_cases {n : Nat} {r t : Record} (h : r.cascade (n + 1) = some t) :
    (∃ p ∈ r.sparse, r.rc < r.rowCount p.1 ∧ ∃ u, r.commitRow p.1 = some u ∧ u.cascade n = some t) ∨
    (∃ p ∈ r.sparse, r.rr < r.colCount p.2 ∧ ∃ u, r.commitCol p.2 = some u ∧ u.cascade n = some t) ∨
    (t = r ∧ r.Unforced) := by
  unfold Record.cascade at h
  split at h
  next p hp =>
    obtain ⟨u, hu, ht⟩ := Option.bind_eq_some_iff.1 h
    exact .inl ⟨p, List.mem_of_find?_eq_some hp, by simpa using List.find?_some hp, u, hu, ht⟩
  next hrows =>
    split at h
    next p hp =>
      obtain ⟨u, hu, ht⟩ := Option.bind_eq_some_iff.1 h
      exact .inr (.inl ⟨p, List.mem_of_find?_eq_some hp, by simpa using List.find?_some hp, u, hu, ht⟩)
    next hcols =>
      refine .inr (.inr ⟨(Option.some.inj h).symm, fun p hp => ⟨?_, ?_⟩⟩)
      · simpa using List.find?_eq_none.1 hrows p hp
      · simpa using List.find?_eq_none.1 hcols p hp

/-- What the commit of a listed pair's row or column keeps, the cascade keeps. -/
theorem Record.cascade_keeps {P : Record → Prop}
    (hrow : ∀ r u p, P r → p ∈ r.sparse → r.commitRow p.1 = some u → P u)
    (hcol : ∀ r u p, P r → p ∈ r.sparse → r.commitCol p.2 = some u → P u) :
    ∀ (n : Nat) {r t : Record}, P r → r.cascade n = some t → P t := by
  intro n
  induction n with
  | zero =>
    intro r t hr h
    exact Option.some.inj h ▸ hr
  | succ n ih =>
    intro r t hr h
    obtain ⟨p, hp, -, u, hu, ht⟩ | ⟨p, hp, -, u, hu, ht⟩ | ⟨rfl, -⟩ := Record.cascade_succ_cases h
    · exact ih (hrow r u p hr hp hu) ht
    · exact ih (hcol r u p hr hp hu) ht
    · exact hr

/-- A cascade with more scans than spares ends with nothing forced: each scan but the last spends a spare (R74). -/
theorem Record.cascade_unforced : ∀ (n : Nat) {r t : Record}, r.rr + r.rc < n → r.cascade n = some t → t.Unforced := by
  intro n
  induction n with
  | zero => intro r t hn; omega
  | succ n ih =>
    intro r t hn h
    obtain ⟨p, -, -, u, hu, ht⟩ | ⟨p, -, -, u, hu, ht⟩ | ⟨rfl, hr⟩ := Record.cascade_succ_cases h
    · obtain ⟨hne, rfl⟩ := Record.commitRow_eq_some.1 hu
      exact ih (by dsimp only; omega) ht
    · obtain ⟨hne, rfl⟩ := Record.commitCol_eq_some.1 hu
      exact ih (by dsimp only; omega) ht
    · exact hr

/-- A trial that does not end in a proof commits the fail's row or column and then settles, or lists the fail where that forces nothing (R72, R73). -/
theorem Record.trial_cases {r t : Record} {p : Half × Col} (h : r.trial p = some t) :
    (r.rc ≤ r.rowCount p.1 ∧ ∃ u, r.commitRow p.1 = some u ∧ u.settle = some t) ∨
    (r.rr ≤ r.colCount p.2 ∧ ∃ u, r.commitCol p.2 = some u ∧ u.settle = some t) ∨
    (r.rowCount p.1 < r.rc ∧ r.colCount p.2 < r.rr ∧ t = { r with sparse := r.sparse ++ [p] }) := by
  unfold Record.trial at h
  split at h
  next hrow => exact .inl ⟨by omega, Option.bind_eq_some_iff.1 h⟩
  next hrow =>
    split at h
    next hcol => exact .inr (.inl ⟨by omega, Option.bind_eq_some_iff.1 h⟩)
    next hcol => exact .inr (.inr ⟨by omega, by omega, (Option.some.inj h).symm⟩)

/-- A fail that is not ignored finds the region not UNREPAIRABLE, its cell uncovered and not listed (R70). -/
theorem Record.ignores_eq_false {r : Record} {p : Half × Col} : r.ignores p = false ↔
    r.state ≠ .unrepairable ∧ (p.1 ∉ r.mustRows ∧ p.2 ∉ r.mustCols) ∧ p ∉ r.sparse := by
  simp [Record.ignores, Record.covered_eq_false, and_assoc]

/-- A counted fail is ignored, or its trial is kept within the bound, or it proves the region unrepairable and only state and cause change (R70, R75, R76). -/
theorem Record.take_cases (r : Record) (p : Half × Col) :
    (r.ignores p = true ∧ r.take p = r) ∨
    (r.ignores p = false ∧ ∃ t, r.trial p = some t ∧ t.inBound = true ∧ r.take p = { t with state := .repairable }) ∨
    (r.ignores p = false ∧ (∀ t, r.trial p = some t → t.inBound = false) ∧
      r.take p = { r with state := .unrepairable, cause := some p }) := by
  unfold Record.take
  split
  next hi => exact .inl ⟨hi, rfl⟩
  next hi =>
    rw [Bool.not_eq_true] at hi
    cases ht : r.trial p with
    | none => exact .inr (.inr ⟨hi, by simp, rfl⟩)
    | some t =>
      by_cases hb : t.inBound = true
      · exact .inr (.inl ⟨hi, t, rfl, hb, by simp [Record.outcome, hb]⟩)
      · rw [Bool.not_eq_true] at hb
        exact .inr (.inr ⟨hi, fun _ h => Option.some.inj h ▸ hb, by simp [Record.outcome, hb]⟩)

/-- The commit of a row that is in no must list keeps the rules of a trial. -/
theorem Record.Consistent.commitRow {r t : Record} {x : Half} (h : r.Consistent) (hx : x ∉ r.mustRows)
    (ht : r.commitRow x = some t) : t.Consistent := by
  obtain ⟨hne, rfl⟩ := Record.commitRow_eq_some.1 ht
  have hrows := h.rows
  refine ⟨?_, h.cols, h.rows_le, h.cols_le, ?_, h.mustCols_nodup, h.sparse_nodup.filter _, ?_⟩
  · simp only [List.length_append, List.length_singleton]; omega
  · exact h.mustRows_nodup.append (List.nodup_singleton x) (List.disjoint_singleton.2 hx)
  · intro p hp
    obtain ⟨hmem, hpx⟩ := List.mem_filter.1 hp
    obtain ⟨hr, hc⟩ := h.uncovered p hmem
    exact ⟨by simpa [hr] using hpx, hc⟩

/-- The commit of a column that is in no must list keeps the rules of a trial. -/
theorem Record.Consistent.commitCol {r t : Record} {y : Col} (h : r.Consistent) (hy : y ∉ r.mustCols)
    (ht : r.commitCol y = some t) : t.Consistent := by
  obtain ⟨hne, rfl⟩ := Record.commitCol_eq_some.1 ht
  have hcols := h.cols
  refine ⟨h.rows, ?_, h.rows_le, h.cols_le, h.mustRows_nodup, ?_, h.sparse_nodup.filter _, ?_⟩
  · simp only [List.length_append, List.length_singleton]; omega
  · exact h.mustCols_nodup.append (List.nodup_singleton y) (List.disjoint_singleton.2 hy)
  · intro p hp
    obtain ⟨hmem, hpy⟩ := List.mem_filter.1 hp
    obtain ⟨hr, hc⟩ := h.uncovered p hmem
    exact ⟨hr, by simpa [hc] using hpy⟩

/-- The settling of a trial keeps its rules: a row or column taken from a listed pair is uncovered (R71). -/
theorem Record.Consistent.settle {r t : Record} (h : r.Consistent) (ht : r.settle = some t) : t.Consistent :=
  Record.cascade_keeps (fun _ _ p hr hp => hr.commitRow (hr.uncovered p hp).1)
    (fun _ _ p hr hp => hr.commitCol (hr.uncovered p hp).2) _ h ht

/-- A settled trial has nothing left to force. -/
theorem Record.settle_unforced {r t : Record} (ht : r.settle = some t) : t.Unforced :=
  Record.cascade_unforced _ (Nat.lt_succ_self _) ht

/-- Commits leave the cause alone, so the settling does. -/
theorem Record.settle_cause {r t : Record} (ht : r.settle = some t) : t.cause = r.cause :=
  Record.cascade_keeps (P := fun u => u.cause = r.cause)
    (fun _ _ _ hu _ h => (Record.commitRow_cause h).trans hu)
    (fun _ _ _ hu _ h => (Record.commitCol_cause h).trans hu) _ rfl ht

/-- The listing of an uncovered cell that is not listed keeps the rules of a trial. -/
theorem Record.Consistent.list {r : Record} {p : Half × Col} (h : r.Consistent)
    (hcov : p.1 ∉ r.mustRows ∧ p.2 ∉ r.mustCols) (hnew : p ∉ r.sparse) :
    Record.Consistent { r with sparse := r.sparse ++ [p] } := by
  refine ⟨h.rows, h.cols, h.rows_le, h.cols_le, h.mustRows_nodup, h.mustCols_nodup,
    h.sparse_nodup.append (List.nodup_singleton p) (List.disjoint_singleton.2 hnew), fun q hq => ?_⟩
  rw [List.mem_append, List.mem_singleton] at hq
  obtain hq | rfl := hq
  · exact h.uncovered q hq
  · exact hcov

/-- A listed cell counts once more in its own row, and in no other. -/
theorem Record.rowCount_list (r : Record) (p : Half × Col) (x : Half) :
    Record.rowCount { r with sparse := r.sparse ++ [p] } x = r.rowCount x + if p.1 = x then 1 else 0 := by
  simp [Record.rowCount, List.countP_append, List.countP_singleton]

/-- A listed cell counts once more in its own column, and in no other. -/
theorem Record.colCount_list (r : Record) (p : Half × Col) (y : Col) :
    Record.colCount { r with sparse := r.sparse ++ [p] } y = r.colCount y + if p.2 = y then 1 else 0 := by
  simp [Record.colCount, List.countP_append, List.countP_singleton]

/-- The listing of a cell whose row and column counts have room for one more forces nothing. -/
theorem Record.Unforced.list {r : Record} {p : Half × Col} (h : r.Unforced) (hrow : r.rowCount p.1 < r.rc)
    (hcol : r.colCount p.2 < r.rr) : Record.Unforced { r with sparse := r.sparse ++ [p] } := by
  have hrows (x : Half) (hx : r.rowCount x ≤ r.rc) : Record.rowCount { r with sparse := r.sparse ++ [p] } x ≤ r.rc := by
    rw [Record.rowCount_list]
    split
    next e => subst e; exact hrow
    next => exact hx
  have hcols (y : Col) (hy : r.colCount y ≤ r.rr) : Record.colCount { r with sparse := r.sparse ++ [p] } y ≤ r.rr := by
    rw [Record.colCount_list]
    split
    next e => subst e; exact hcol
    next => exact hy
  intro q hq
  rw [List.mem_append, List.mem_singleton] at hq
  obtain hq | rfl := hq
  · exact ⟨hrows q.1 (h q hq).1, hcols q.2 (h q hq).2⟩
  · exact ⟨hrows q.1 hrow.le, hcols q.2 hcol.le⟩

/-- The trial of a fail that is not ignored keeps the rules of a trial, forces nothing when it ends, and leaves the cause alone. -/
theorem Record.trial_keeps {r t : Record} {p : Half × Col} (h : r.Consistent) (hu : r.Unforced)
    (hi : r.ignores p = false) (ht : r.trial p = some t) : t.Consistent ∧ t.Unforced ∧ t.cause = r.cause := by
  obtain ⟨-, hcov, hnew⟩ := Record.ignores_eq_false.1 hi
  obtain ⟨-, u, hc, hs⟩ | ⟨-, u, hc, hs⟩ | ⟨hrow, hcol, rfl⟩ := Record.trial_cases ht
  · exact ⟨(h.commitRow hcov.1 hc).settle hs, Record.settle_unforced hs,
      (Record.settle_cause hs).trans (Record.commitRow_cause hc)⟩
  · exact ⟨(h.commitCol hcov.2 hc).settle hs, Record.settle_unforced hs,
      (Record.settle_cause hs).trans (Record.commitCol_cause hc)⟩
  · exact ⟨h.list hcov hnew, hu.list hrow hcol, rfl⟩

/-- The taking of a counted fail keeps a record sound (R66, R67). -/
theorem Record.sound_take {r : Record} (p : Half × Col) (h : r.sound = true) : (r.take p).sound = true := by
  obtain ⟨hcons, hunf, hbound, hcause, hclean⟩ := r.sound_iff.1 h
  obtain ⟨-, e⟩ | ⟨hi, t, ht, hb, e⟩ | ⟨-, -, e⟩ := r.take_cases p
  · rw [e]; exact h
  · obtain ⟨htc, htu, htcause⟩ := Record.trial_keeps hcons hunf hi ht
    have hnone : t.cause = none := by
      rw [htcause, ← Option.not_isSome_iff_eq_none, hcause]
      exact (Record.ignores_eq_false.1 hi).1
    rw [e, Record.sound_iff]
    exact ⟨{ htc with }, htu, hb, by simp [hnone], by simp⟩
  · rw [e, Record.sound_iff]
    exact ⟨{ hcons with }, hunf, hbound, by simp, by simp⟩

/-- A fail that leaves the region UNREPAIRABLE changes the state and the cause at most (R76). -/
theorem Record.take_unrepairable {r : Record} {p : Half × Col} (h : (r.take p).state = .unrepairable) :
    { r.take p with state := r.state, cause := r.cause } = r := by
  obtain ⟨-, e⟩ | ⟨-, t, -, -, e⟩ | ⟨-, -, e⟩ := r.take_cases p
  · rw [e]
  · rw [e] at h; cases h
  · rw [e]

/-- A record loaded with budgets in their range is sound (R66, R80). -/
theorem Record.sound_load (b : Budget) (hr : b.sr ≤ 4) (hc : b.sc ≤ 4) : (Record.load b).sound = true := by
  rw [Record.sound_iff]
  refine ⟨⟨rfl, rfl, hr, hc, .nil, .nil, .nil, ?_⟩, ?_, ?_, ?_, ?_⟩ <;>
    simp [Record.load, Record.Unforced, Record.inBound]

/-- The bound of R75 with budgets of at most 4 caps the sparse list at 32 pairs (R67). -/
theorem Record.Consistent.sparse_length_le {r : Record} (h : r.Consistent) (hb : r.inBound = true) :
    r.sparse.length ≤ 32 := by
  have hrr : r.rr ≤ 4 := by have := h.rows; have := h.rows_le; omega
  have hrc : r.rc ≤ 4 := by have := h.cols; have := h.cols_le; omega
  calc r.sparse.length ≤ 2 * r.rr * r.rc := r.inBound_iff.1 hb
    _ ≤ 2 * 4 * 4 := Nat.mul_le_mul (Nat.mul_le_mul_left 2 hrr) hrc

end Sys2Proof.Machine
end

section
/-! PROOFS. The request of a CONTROL frame that is executed, and the records after each reset (R87, R187). -/

namespace Sys2Proof.Machine

/-- What the end of a drain writes leaves the chain position alone. -/
theorem ReportsOnly.chainPos {s t : State} (h : ReportsOnly s t) : t.chainPos = s.chainPos := by
  unfold ReportsOnly at h; rw [h]

/-- What the end of a drain writes leaves the response queue alone. -/
theorem ReportsOnly.responses {s t : State} (h : ReportsOnly s t) : t.ret.responses = s.ret.responses := by
  unfold ReportsOnly at h; rw [h]

/-- A change of the sites and outputs leaves the chain position alone. -/
theorem SitesOnly.chainPos {s t : State} (h : SitesOnly s t) : t.chainPos = s.chainPos := by
  unfold SitesOnly at h; rw [h]

/-- The expiry tests of a slot leave the chain position and the response queue alone (R48). -/
theorem State.expireAll_keeps (s : State) :
    s.expireAll.chainPos = s.chainPos ∧ s.expireAll.ret.responses = s.ret.responses := by
  have hs := expireSites_only s
  have hd := settleDrain_only s.expireSites
  unfold State.expireAll
  split
  · exact ⟨hd.chainPos.trans hs.chainPos, by rw [hd.responses, hs.ret]⟩
  · exact ⟨rfl, rfl⟩

/-- A slot's expiry tests and NOPs leave the chain position and the response queue alone (R23, R48). -/
theorem State.plainSlot_keeps (s : State) :
    s.plainSlot.chainPos = s.chainPos ∧ s.plainSlot.ret.responses = s.ret.responses := by
  have hn := slotNops_only s.expireAll
  obtain ⟨hpos, hresp⟩ := s.expireAll_keeps
  exact ⟨hn.chainPos.trans hpos, by rw [State.plainSlot, hn.ret, hresp]⟩

/-- The slot of a frame leaves the chain position and the response queue alone (R132). -/
theorem State.slotOf_keeps (s : State) (f : Frame) (a : Arrival) :
    (s.slotOf f a).chainPos = s.chainPos ∧ (s.slotOf f a).ret.responses = s.ret.responses := by
  obtain ⟨hpos, hresp⟩ := State.plainSlot_keeps (State.ageAll { s.begin.forward f a with link := s.link.count a })
  rw [State.slotOf, hpos, hresp]
  exact ⟨rfl, rfl⟩

/-- The request of a CONTROL frame that is executed runs in the state after the frame's slot (R175, R176). -/
theorem State.takeControl_of_executes {s : State} {c : Ctl} {code : Byte} (params : List Byte) (run : State → State)
    (h : s.executes c code = true) :
    s.begin.takeControl c code params run = run (s.controlSlot c code params) := by
  simp only [State.executes, State.actsOn, Bool.and_eq_true, Bool.not_eq_true', beq_iff_eq] at h
  obtain ⟨⟨⟨hlive, hloss⟩, htakes⟩, hroom⟩ := h
  obtain ⟨hpos, hresp⟩ := s.slotOf_keeps (controlFrame c code params) (.control (ctlTarget c) code)
  have htakes' : (s.controlSlot c code params).takes c = true := by
    simpa only [State.takes, State.addressed, State.controlSlot, hpos] using htakes
  have hroom' : (s.controlSlot c code params).responseRoom = true := by
    simpa only [State.responseRoom, State.controlSlot, hresp] using hroom
  rw [State.takeControl, takeFrame_live s.begin _ _ _ hlive hloss]
  exact request_of_room _ c run htakes' hroom'

/-- The state that an executed RESET PART leaves (R187). -/
theorem exec_resetPart_of_executes {s : State} {c : Ctl} (params : List Byte) (h : s.executes c 0x03 = true) :
    exec (.resetPart c params) s = .next ((s.controlSlot c 0x03 params).reqResetPart c) :=
  congrArg Host.Outcome.next (State.takeControl_of_executes params (fun t => t.reqResetPart c) h)

/-- The state that the assertion of a released CRST_N leaves (R150). -/
theorem exec_crstAsserted_of_released {s : State} (h : s.link.crst = false) :
    exec .crstAsserted s = .next (({ s.begin with link := { s.link with crst := true } } : State).lineReset) := by
  show execCrstAsserted s = _
  simp [execCrstAsserted, h]

/-- Every record of every site is a reset record (R87). -/
def State.RecordsReset (s : State) : Prop := ∀ (i : SiteNo) (g : RegionNo), (s.site i).records.get g = {}

/-- Power-on reset resets every record (R87, R152). -/
theorem State.powerOn_recordsReset (s : State) : s.powerOn.RecordsReset := by
  intro i g
  simp [State.powerOn, State.reset, State.site, Vector.get]

/-- A chain reset resets every record (R87, R150, R151). -/
theorem State.chainReset_recordsReset (s : State) : s.chainReset.RecordsReset := by
  intro i g
  simp only [State.chainReset, State.site, mapVector_get, Site.chainReset]
  simp [Vector.get]

/-- Whether records are reset depends on the sites only. -/
theorem State.RecordsReset.congr {s t : State} (h : s.RecordsReset) (e : t.sites = s.sites) : t.RecordsReset :=
  fun i g => by rw [State.site_congr e]; exact h i g

/-- The assertion of CRST_N resets every record (R87, R150). -/
theorem State.lineReset_recordsReset (s : State) : s.lineReset.RecordsReset := s.chainReset_recordsReset.congr rfl

/-- RESET PART resets every record (R87, R151, R187). -/
theorem State.reqResetPart_recordsReset (s : State) (c : Ctl) : (s.reqResetPart c).RecordsReset :=
  s.chainReset_recordsReset.congr rfl

end Sys2Proof.Machine
end

section
/-! PROOFS. The statement on the records of the repair analysis (R66, R67). -/

namespace Sys2Proof.Machine

/-- Settles O27: each reset leaves reset records, and a fail keeps the rules of a record because its trial does, commit by commit, while the cascade spends a spare in each scan. -/
theorem analysisRecordsStaySound : Obligations.AnalysisRecordsStaySound := by
  unfold Obligations.AnalysisRecordsStaySound
  refine ⟨?resets, by decide, ?load, fun r p h => Record.sound_take p h, ?row, ?col,
    fun r p h => Record.take_unrepairable h, ?rules⟩
  case resets =>
    intro zero
    have zero_of {t : State} (h : t.RecordsReset) : zero t := fun i g => by
      simp only [h i g, and_self]
    refine ⟨fun s => ⟨_, rfl, zero_of s.begin.powerOn_recordsReset⟩, fun s h => ?_, fun s c params h => ?_⟩
    · exact ⟨_, exec_crstAsserted_of_released h, zero_of (State.lineReset_recordsReset _)⟩
    · exact ⟨_, exec_resetPart_of_executes params h, zero_of (State.reqResetPart_recordsReset _ c)⟩
  case load =>
    intro b hr hc
    exact ⟨Record.sound_load b hr hc, rfl, rfl, rfl, rfl, rfl, rfl⟩
  case row =>
    intro r t x h
    obtain ⟨hne, rfl⟩ := Record.commitRow_eq_some.1 h
    exact ⟨Nat.succ_pred_eq_of_ne_zero hne, rfl, rfl, rfl⟩
  case col =>
    intro r t y h
    obtain ⟨hne, rfl⟩ := Record.commitCol_eq_some.1 h
    exact ⟨Nat.succ_pred_eq_of_ne_zero hne, rfl, rfl, rfl⟩
  case rules =>
    intro r h
    obtain ⟨hcons, hunf, hbound, -, -⟩ := r.sound_iff.1 h
    have hrows := hcons.rows
    have hcols := hcons.cols
    have hrows_le := hcons.rows_le
    have hcols_le := hcons.cols_le
    exact ⟨hrows, hrows_le, hcols, hcols_le, by omega, by omega, fun h0 => List.length_eq_zero_iff.1 (by omega),
      hcons.sparse_nodup, hcons.uncovered, r.inBound_iff.1 hbound, hcons.sparse_length_le hbound, hunf⟩

end Sys2Proof.Machine
end

section
/-! PROOFS. What the three kinds of reset leave in Pass Control, the Link Receiver, the Notice Unit and the Control Request Unit (R105, R152, R191), the response of RESET PART (R187), and the admission of OPEN PASS (R90, R91). -/

namespace Sys2Proof.Machine

/-- What the end of a drain writes leaves the revision alone. -/
theorem ReportsOnly.revision {s t : State} (h : ReportsOnly s t) : t.revision = s.revision := by
  unfold ReportsOnly at h; rw [h]

/-- A change of the sites and outputs leaves the revision alone. -/
theorem SitesOnly.revision {s t : State} (h : SitesOnly s t) : t.revision = s.revision := by
  unfold SitesOnly at h; rw [h]

/-- The expiry tests of a slot leave the revision alone (R48, R185). -/
theorem State.expireAll_revision (s : State) : s.expireAll.revision = s.revision := by
  unfold State.expireAll
  split
  · exact (settleDrain_only s.expireSites).revision.trans (expireSites_only s).revision
  · rfl

/-- The slot of a CONTROL frame leaves the revision alone (R132, R185). -/
theorem State.controlSlot_revision (s : State) (c : Ctl) (code : Byte) (params : List Byte) :
    (s.controlSlot c code params).revision = s.revision := by
  rw [State.controlSlot, State.slotOf, State.plainSlot, (slotNops_only _).revision, State.expireAll_revision]
  rfl

/-- The slot of a CONTROL frame leaves the chain position alone (R132). -/
theorem State.controlSlot_chainPos (s : State) (c : Ctl) (code : Byte) (params : List Byte) :
    (s.controlSlot c code params).chainPos = s.chainPos :=
  (s.slotOf_keeps _ _).1

/-- Bytes before a list that is cut or filled already: the whole is cut or filled alike. -/
theorem append_padTo {α : Type} (n : Nat) (z : α) (l data : List α) :
    l ++ padTo n z data = padTo (l.length + n) z (l ++ data) := by
  simp [padTo, List.append_assoc, List.take_length_add_append, Nat.add_sub_add_left]

/-- A RESPONSE frame built by the part is the one its bytes give, zeros filling its data (R179). -/
theorem State.responseFrame_eq (s : State) (c : Ctl) (code : Byte) (status : Status) (clamped : Bool) (data : List Byte) :
    s.responseFrame c code status clamped data =
      s.responseBytes c code (if clamped then status.code ||| 0x80 else status.code) data := by
  have hbytes (a b c d : Byte) : [a, b, c, d] ++ padTo 25 0 data = padTo 29 0 (a :: b :: c :: d :: data) :=
    append_padTo 25 0 [a, b, c, d] data
  have hbody (l : List Byte) : padTo 29 0 (padTo 29 0 l) = padTo 29 0 l := padTo_of_length _ _ _ (padTo_length _ _ _)
  simp only [State.responseFrame, State.responseBytes, returnFrame, mkFrame, ← List.cons_append, hbytes, hbody]

/-- SYQ_OUT is asserted outside LIVE and while SYQ_IN is (R140). -/
theorem State.syqOut_iff (s : State) :
    s.syqOut = true ↔ s.link.state = .down ∨ s.link.state = .seek ∨ s.link.syqIn = true := by
  unfold State.syqOut
  cases s.link.state <;> simp

/-- A part with no chain position takes broadcasts only (R145). -/
theorem State.takes_of_unassigned {s : State} (h : s.chainPos = none) (c : Ctl) : s.takes c = true ↔ ctlTarget c = 15 := by
  simp [State.takes, State.addressed, h]

/-- A chain reset, whole: the ports park, and every item that it resets has its reset value (R187). -/
theorem State.chainReset_eq (s : State) :
    s.chainReset = { s with
      sites := s.chainReset.sites, out := s.chainReset.out, expander := {}, cal := { count := s.tables.reload }, pass := {}
      ret := { hofIn := s.ret.hofIn, rawLog := s.ret.rawLog }, notice := { mask := s.notice.mask } } := by
  have hpark : SitesOnly s (forSites (fun i t => t.parkPort i) s) := forSites_only (fun i t => parkPort_only t i) s
  unfold SitesOnly at hpark
  unfold State.chainReset
  rw [hpark]

/-- A chain reset leaves the chain position as it is: what becomes of it depends on the cause (R187, R191). -/
@[simp] theorem State.chainReset_chainPos (s : State) : s.chainReset.chainPos = s.chainPos := by rw [s.chainReset_eq]

/-- A chain reset leaves the revision as it is (R185). -/
@[simp] theorem State.chainReset_revision (s : State) : s.chainReset.revision = s.revision := by rw [s.chainReset_eq]

/-- Pass Control after a chain reset (R105). -/
@[simp] theorem State.chainReset_pass (s : State) : s.chainReset.pass = {} := by rw [s.chainReset_eq]

/-- The Return Merger after a chain reset (R173). -/
@[simp] theorem State.chainReset_ret (s : State) : s.chainReset.ret = { hofIn := s.ret.hofIn, rawLog := s.ret.rawLog } := by
  rw [s.chainReset_eq]

/-- The Notice Unit after a chain reset: the mask is kept (R191). -/
@[simp] theorem State.chainReset_notice (s : State) : s.chainReset.notice = { mask := s.notice.mask } := by
  rw [s.chainReset_eq]

/-- A part that has been started: what power-on reset and the reset from the line leave alike in Pass Control, the Link Receiver, the Notice Unit and the Control Request Unit (R105, R150, R152, R191). -/
structure State.Started (cause : ResetCause) (revision : Byte) (t : State) : Prop where
  pass : t.pass = {}
  link : ∃ l : LinkRx, t.link = l.lineReset
  chainPos : t.chainPos = none
  cause : t.cause = cause
  revision : t.revision = revision
  notice : ∃ mask : Byte, t.notice = { mask := mask }
  responses : t.ret.responses = []

/-- The state after power-on reset that runs begin with is that of a started part (R152). -/
theorem State.reset_started : State.reset.Started .powerOn State.reset.revision :=
  ⟨rfl, ⟨{}, rfl⟩, rfl, rfl, rfl, ⟨0, rfl⟩, rfl⟩

/-- Power-on reset starts the part (R105, R152, R191). -/
theorem State.powerOn_started (s : State) : s.powerOn.Started .powerOn s.revision :=
  ⟨rfl, ⟨{ s.link with signal := false }, rfl⟩, rfl, rfl, rfl, ⟨0, rfl⟩, rfl⟩

/-- The reset from the line starts the part (R105, R150, R191). -/
theorem State.lineReset_started (s : State) : s.lineReset.Started .chainLine s.revision :=
  { pass := by simp [State.lineReset]
    link := ⟨s.link, rfl⟩
    chainPos := rfl
    cause := rfl
    revision := by simp [State.lineReset]
    notice := ⟨s.notice.mask, by simp [State.lineReset]⟩
    responses := by simp [State.lineReset] }

/-- A weaker property of the next state is reached too. -/
theorem Reaches.mono {o : Host.Outcome State Fault Refusal} {P Q : State → Prop} (h : Reaches o P) (hpq : ∀ t, P t → Q t) :
    Reaches o Q := by
  obtain ⟨t, ht, hp⟩ := h
  exact ⟨t, ht, hpq t hp⟩

/-- POWER_ON_RESET starts the part (R152). -/
theorem exec_powerOnReset_starts (s : State) : Reaches (exec .powerOnReset s) (State.Started .powerOn s.revision) :=
  ⟨s.begin.powerOn, rfl, s.begin.powerOn_started⟩

/-- The assertion of a released CRST_N starts the part (R150). -/
theorem exec_crstAsserted_starts {s : State} (h : s.link.crst = false) :
    Reaches (exec .crstAsserted s) (State.Started .chainLine s.revision) :=
  let held : State := { s.begin with link := { s.link with crst := true } }
  ⟨held.lineReset, exec_crstAsserted_of_released h, held.lineReset_started⟩

/-- A started part is DOWN (R150, R152). -/
theorem State.Started.down {cause : ResetCause} {revision : Byte} {t : State} (h : t.Started cause revision) :
    t.link.state = .down := by
  obtain ⟨l, hl⟩ := h.link
  rw [hl]; rfl

/-- A started part reports the identity of its revision (R185). -/
theorem State.Started.identity {cause : ResetCause} {revision : Byte} {t : State} (h : t.Started cause revision) :
    t.identity = [0x04, 0x16, revision] := by
  rw [State.identity, h.revision]

/-- RESET PART leaves the chain position as it is (R151, R191). -/
@[simp] theorem State.reqResetPart_chainPos (s : State) (c : Ctl) : (s.reqResetPart c).chainPos = s.chainPos := by
  simp [State.reqResetPart, State.partReset]

/-- RESET PART leaves the revision as it is (R185). -/
@[simp] theorem State.reqResetPart_revision (s : State) (c : Ctl) : (s.reqResetPart c).revision = s.revision := by
  simp [State.reqResetPart, State.partReset]

/-- Pass Control after RESET PART (R105). -/
@[simp] theorem State.reqResetPart_pass (s : State) (c : Ctl) : (s.reqResetPart c).pass = {} := by
  simp [State.reqResetPart, State.partReset]

/-- RESET PART keeps the link and clears its error counters (R151). -/
@[simp] theorem State.reqResetPart_link (s : State) (c : Ctl) : (s.reqResetPart c).link = s.link.partReset := rfl

/-- The cause that RESET PART records (R186). -/
@[simp] theorem State.reqResetPart_cause (s : State) (c : Ctl) : (s.reqResetPart c).cause = .chainRequest := rfl

/-- The Notice Unit after RESET PART: the mask is kept (R191). -/
@[simp] theorem State.reqResetPart_notice (s : State) (c : Ctl) : (s.reqResetPart c).notice = { mask := s.notice.mask } := by
  simp [State.reqResetPart, State.partReset]

/-- The response of RESET PART is the only one left, and it reports the part as the reset leaves it (R187). -/
theorem State.reqResetPart_responses (s : State) (c : Ctl) :
    let t := s.reqResetPart c
    t.ret.responses = [t.responseBytes c 0x03 0 [0x04, 0x16, s.revision, 2, t.source]] := by
  simp [State.reqResetPart, State.partReset, State.responseFrame_eq, State.responseBytes, State.identity, State.positionByte,
    State.source, codeResetPart, Status.code, ResetCause.code]

/-- The state that an executed OPEN PASS leaves (R90). -/
theorem exec_openPass_of_executes {s : State} {c : Ctl} (number : Byte) (rest : List Byte) (h : s.executes c 0x30 = true) :
    exec (.openPass c number rest) s = .next ((s.controlSlot c 0x30 (number :: rest)).reqOpenPass c number) :=
  congrArg Host.Outcome.next (State.takeControl_of_executes (number :: rest) (fun t => t.reqOpenPass c number) h)

/-- OPEN PASS is accepted in IDLE and CLOSED (R90, R91). -/
theorem State.reqOpenPass_of_admitted {s : State} (c : Ctl) (number : Byte) (h : s.pass.state = .idle ∨ s.pass.state = .closed) :
    s.reqOpenPass c number = (s.openPass number).answer c codeOpenPass .accepted (s.openPass number).passData := by
  obtain h | h := h <;> simp [State.reqOpenPass, h]

end Sys2Proof.Machine
end

section
/-! PROOFS. The statement on the items of Pass Control, the Link Receiver and the Control Request Unit after each reset (R105, R152, R191). -/

namespace Sys2Proof.Machine

/-- Settles O4: power-on reset and the reset from the line leave a started part, from which every item of the three tables is read; RESET PART keeps the link and the chain position of the state its slot leaves. -/
theorem resetItemsOfPassLinkAndControl : Obligations.ResetItemsOfPassLinkAndControl := by
  unfold Obligations.ResetItemsOfPassLinkAndControl
  refine ⟨?pass, ?link, ?requests⟩
  case pass =>
    refine ⟨State.reset_started.pass, fun s => (exec_powerOnReset_starts s).mono fun _ ht => ht.pass,
      fun s h => (exec_crstAsserted_starts h).mono fun _ ht => ht.pass,
      fun s c params h => ⟨_, exec_resetPart_of_executes params h, State.reqResetPart_pass _ c⟩, ?opened⟩
    case opened =>
      intro s c number rest h u hstate
      exact ⟨_, exec_openPass_of_executes number rest h, by rw [State.reqOpenPass_of_admitted c number hstate]; rfl⟩
  case link =>
    intro cleared
    have cleared_of {cause : ResetCause} {revision : Byte} {t : State} (h : t.Started cause revision) : cleared t := by
      obtain ⟨l, hlink⟩ := h.link
      obtain ⟨mask, hnotice⟩ := h.notice
      have hsyq : t.syqOut = true := t.syqOut_iff.2 (.inl h.down)
      simp [cleared, hlink, hnotice, h.chainPos, hsyq, LinkRx.lineReset]
    refine ⟨cleared_of State.reset_started, fun s => (exec_powerOnReset_starts s).mono fun _ => cleared_of,
      fun s h => (exec_crstAsserted_starts h).mono fun _ => cleared_of, ?part⟩
    case part =>
      intro s c params h u
      exact ⟨_, exec_resetPart_of_executes params h, u.reqResetPart_link c, by simp,
        (u.reqResetPart_chainPos c).trans (s.controlSlot_chainPos c 0x03 params), State.syqOut_iff _⟩
  case requests =>
    intro started
    have started_of {cause : ResetCause} {s t : State} (h : t.Started cause s.revision) : started cause s t := by
      obtain ⟨mask, hnotice⟩ := h.notice
      have hflag : bitOf t.notice.flags 7 = false := by simp [hnotice, bitOf]
      have hlive : t.link.state ≠ .live := by simp [h.down]
      exact ⟨h.chainPos, h.cause, h.identity, hflag, h.responses, hlive, State.takes_of_unassigned h.chainPos⟩
    refine ⟨started_of State.reset_started, fun s => (exec_powerOnReset_starts s).mono fun _ => started_of,
      fun s h => (exec_crstAsserted_starts h).mono fun _ => started_of, ?part⟩
    case part =>
      intro s c params h
      have hpos := s.controlSlot_chainPos c 0x03 params
      have hrev := s.controlSlot_revision c 0x03 params
      refine ⟨_, exec_resetPart_of_executes params h, (State.reqResetPart_chainPos _ c).trans hpos, State.reqResetPart_cause _ c, ?_,
        by simp [bitOf], ?_⟩
      · rw [State.identity, State.reqResetPart_revision, hrev]
      · rw [← hrev]; exact State.reqResetPart_responses _ c

end Sys2Proof.Machine
end

section
/-! PROOFS. The window of a scan (R116): runs of passing phases, the search for the longest, and the found phase in it. -/

namespace Sys2Proof.Machine

/-- A run reaches no further than the phases looked at. -/
theorem runLength_le (passed : BitVec 64) (p n : Nat) : runLength passed p n ≤ n := by
  induction n generalizing p with
  | zero => exact Nat.le_refl 0
  | succ n ih =>
    rw [runLength]
    split
    · exact Nat.succ_le_succ (ih (p + 1))
    · exact Nat.zero_le _

/-- Among the n phases looked at, the run is the greatest number of phases from its start on that all pass. -/
theorem le_runLength_iff (passed : BitVec 64) {m n : Nat} (p : Nat) (h : m ≤ n) :
    m ≤ runLength passed p n ↔ ∀ k < m, passed.getLsbD (p + k) = true := by
  induction n generalizing p m with
  | zero => simp [Nat.le_zero.1 h]
  | succ n ih =>
    cases m with
    | zero => simp
    | succ m =>
      have hnext := ih (p + 1) (Nat.le_of_succ_le_succ h)
      rw [runLength, Nat.forall_lt_succ_left']
      by_cases hp : passed.getLsbD p = true
      · simp [hp, hnext, Nat.add_assoc, Nat.add_comm 1]
      · simp [hp]

/-- The runs of passing phases from a phase on are those no longer than the one the scan measures there (R116). -/
theorem phaseRun_iff_le_runLength (passed : BitVec 64) {p : Nat} (hp : p ≤ 64) (m : Nat) :
    PhaseRun passed p m ↔ m ≤ runLength passed p (64 - p) := by
  constructor
  · rintro ⟨hbound, hpass⟩
    exact (le_runLength_iff passed p (by omega)).2 hpass
  · intro h
    have hm : m ≤ 64 - p := h.trans (runLength_le passed p _)
    exact ⟨by omega, (le_runLength_iff passed p hm).1 h⟩

/-- A longest run of passing phases among those that start below phase b, and none of its length starts lower: the window as far as the search has come, of length 0 where nothing has passed yet. -/
structure IsWindowBelow (passed : BitVec 64) (b p n : Nat) : Prop where
  run : PhaseRun passed p n
  longest : ∀ q m, q < b → PhaseRun passed q m → m ≤ n
  lowest : ∀ q, PhaseRun passed q n → p ≤ q

/-- The search among the start phases below b finds the window below b: a later start takes the place only of a shorter run (R116). -/
theorem windowBelow_isWindowBelow (passed : BitVec 64) {b : Nat} (hb : b ≤ 64) :
    IsWindowBelow passed b (windowBelow passed b).1 (windowBelow passed b).2 := by
  induction b with
  | zero => exact ⟨⟨Nat.zero_le 64, by simp [windowBelow]⟩, by simp, fun q _ => Nat.zero_le q⟩
  | succ b ih =>
    obtain ⟨hrun, hlongest, hlowest⟩ := ih (by omega)
    have hhere := phaseRun_iff_le_runLength passed (p := b) (by omega)
    rw [windowBelow]
    split
    case isTrue hlonger =>
      refine ⟨(hhere _).2 (Nat.le_refl _), fun q m hq hm => ?_, fun q hm => ?_⟩
      · obtain hq | rfl := Nat.lt_succ_iff_lt_or_eq.1 hq
        · exact (hlongest q m hq hm).trans hlonger.le
        · exact (hhere m).1 hm
      · exact Nat.not_lt.1 fun hq => Nat.not_le.2 hlonger (hlongest q _ hq hm)
    case isFalse hshorter =>
      refine ⟨hrun, fun q m hq hm => ?_, hlowest⟩
      obtain hq | rfl := Nat.lt_succ_iff_lt_or_eq.1 hq
      · exact hlongest q m hq hm
      · exact ((hhere m).1 hm).trans (Nat.not_lt.1 hshorter)

/-- A run of at least one phase starts below 64. -/
theorem PhaseRun.start_lt {passed : BitVec 64} {p n : Nat} (h : PhaseRun passed p n) (hn : 1 ≤ n) : p < 64 := by
  have := h.1
  omega

/-- What the search over all 64 phases finds is the window, where it finds a run at all; and there is no other window (R116). -/
theorem isWindow_iff (passed : BitVec 64) (p n : Nat) : IsWindow passed p n ↔ 1 ≤ n ∧ windowBelow passed 64 = (p, n) := by
  obtain ⟨hrun, hlongest, hlowest⟩ := windowBelow_isWindowBelow passed (Nat.le_refl 64)
  constructor
  · rintro ⟨hn, hpn, hmax, hmin⟩
    have hlen : n = (windowBelow passed 64).2 :=
      Nat.le_antisymm (hlongest p n (hpn.start_lt hn) hpn) (hmax _ _ hrun)
    subst hlen
    exact ⟨hn, Prod.ext (Nat.le_antisymm (hlowest p hpn) (hmin _ hrun)) rfl⟩
  · rintro ⟨hn, hw⟩
    rw [hw] at hrun hlongest hlowest
    refine ⟨hn, hrun, fun q m hm => ?_, hlowest⟩
    obtain rfl | hpos := Nat.eq_zero_or_pos m
    · exact Nat.zero_le n
    · exact hlongest q m (hm.start_lt hpos) hm

/-- A scan has a window exactly when a phase passed. -/
theorem exists_isWindow_iff (passed : BitVec 64) :
    (∃ p n : Nat, IsWindow passed p n) ↔ ∃ p : Fin 64, passed.getLsbD p.val = true := by
  constructor
  · rintro ⟨p, n, hn, hrun, -⟩
    exact ⟨⟨p, hrun.start_lt hn⟩, hrun.2 0 hn⟩
  · rintro ⟨p, hp⟩
    have hone : PhaseRun passed p 1 := ⟨p.isLt, fun k hk => by rwa [Nat.lt_one_iff.1 hk]⟩
    exact ⟨_, _, (isWindow_iff passed _ _).2
      ⟨(windowBelow_isWindowBelow passed (Nat.le_refl 64)).longest p 1 p.isLt hone, rfl⟩⟩

/-- The scan fails where its search finds fewer than 6 phases in a run (R116). -/
theorem foundPhase_of_short {passed : BitVec 64} (h : (windowBelow passed 64).2 < 6) : foundPhase passed = none :=
  if_pos h

/-- The found phase of a window of 6 phases or more (R116). -/
theorem foundPhase_of_isWindow {passed : BitVec 64} {p n : Nat} (h : IsWindow passed p n) (hn : 6 ≤ n) :
    foundPhase passed = some (Fin.ofNat 64 (p + (n - 1) / 2)) := by
  simp [foundPhase, ((isWindow_iff passed p n).1 h).2, Nat.not_lt.2 hn]

/-- Settles O35: the search finds the one window there is, and the middle of its run lies in it. -/
theorem windowRule : Obligations.WindowRule := by
  unfold Obligations.WindowRule
  intro passed
  refine ⟨exists_isWindow_iff passed, fun hnone => ?nonePassed, fun p n hw => ⟨fun hshort => ?short, fun hlong => ?found⟩⟩
  case nonePassed =>
    refine foundPhase_of_short (Nat.lt_of_not_le fun hlong => ?_)
    have hw := (isWindow_iff passed _ _).2 ⟨(by decide : 1 ≤ 6).trans hlong, rfl⟩
    obtain ⟨p, hp⟩ := (exists_isWindow_iff passed).1 ⟨_, _, hw⟩
    exact Bool.false_ne_true ((hnone p).symm.trans hp)
  case short =>
    exact foundPhase_of_short (by rw [((isWindow_iff passed p n).1 hw).2]; exact hshort)
  case found =>
    have ⟨_, ⟨hbound, hpass⟩, _⟩ := hw
    have hphase : p + (n - 1) / 2 < 64 := by omega
    refine ⟨?_, hpass _ (by omega)⟩
    rw [foundPhase_of_isWindow hw hlong, Option.map_some, Fin.val_ofNat, Nat.mod_eq_of_lt hphase]

end Sys2Proof.Machine
end

section
/-! PROOFS. What the slot of a CONTROL frame leaves alone, what each reset leaves in calibration (R130), in the Return Merger and in the Notice Unit (R173), and the return link while CRST_N is held asserted. -/

namespace Sys2Proof.Machine

/-- The expiry tests of a slot change the sites and the outputs, and then what the end of a drain writes (R48). -/
theorem State.expireAll_changes (s : State) : ∃ t, SitesOnly s t ∧ ReportsOnly t s.expireAll := by
  unfold State.expireAll
  split
  · exact ⟨s.expireSites, expireSites_only s, settleDrain_only _⟩
  · exact ⟨s, .rfl s, .rfl s⟩

/-- The slot of a CONTROL frame changes the link's counters and the outputs, the sites, and what the end of a drain writes (R48, R132). -/
theorem State.controlSlot_changes (s : State) (c : Ctl) (code : Byte) (params : List Byte) :
    ∃ t u, SitesOnly { s with link := s.link.count (.control (ctlTarget c) code) } t ∧ ReportsOnly t u ∧
      SitesOnly u (s.controlSlot c code params) := by
  let aged : State := State.ageAll
    { s.begin.forward (controlFrame c code params) (.control (ctlTarget c) code) with
      link := s.link.count (.control (ctlTarget c) code) }
  obtain ⟨t, hexpire, hdrain⟩ := aged.expireAll_changes
  have haged : SitesOnly { s with link := s.link.count (.control (ctlTarget c) code) } aged := Eq.refl _
  exact ⟨t, _, haged.trans hexpire, hdrain, slotNops_only _⟩

/-- What the end of a drain writes leaves the raw log alone. -/
theorem ReportsOnly.rawLog {s t : State} (h : ReportsOnly s t) : t.ret.rawLog = s.ret.rawLog := by
  unfold ReportsOnly at h; rw [h]

/-- What the end of a drain writes leaves the notice mask alone. -/
theorem ReportsOnly.mask {s t : State} (h : ReportsOnly s t) : t.notice.mask = s.notice.mask := by
  unfold ReportsOnly at h; rw [h]

/-- The slot of a CONTROL frame leaves the stored tables alone (R132). -/
theorem State.controlSlot_tables (s : State) (c : Ctl) (code : Byte) (params : List Byte) :
    (s.controlSlot c code params).tables = s.tables := by
  obtain ⟨t, u, ht, hu, hslot⟩ := s.controlSlot_changes c code params
  rw [hslot.tables, hu.tables, ht.tables]

/-- The slot of a CONTROL frame leaves the raw log alone (R132). -/
theorem State.controlSlot_rawLog (s : State) (c : Ctl) (code : Byte) (params : List Byte) :
    (s.controlSlot c code params).ret.rawLog = s.ret.rawLog := by
  obtain ⟨t, u, ht, hu, hslot⟩ := s.controlSlot_changes c code params
  rw [hslot.ret, hu.rawLog, ht.ret]

/-- The slot of a CONTROL frame leaves the notice mask alone (R132). -/
theorem State.controlSlot_mask (s : State) (c : Ctl) (code : Byte) (params : List Byte) :
    (s.controlSlot c code params).notice.mask = s.notice.mask := by
  obtain ⟨t, u, ht, hu, hslot⟩ := s.controlSlot_changes c code params
  rw [hslot.notice, hu.mask, ht.notice]

/-- A chain reset keeps the stored tables (R130). -/
@[simp] theorem State.chainReset_tables (s : State) : s.chainReset.tables = s.tables := by rw [s.chainReset_eq]

/-- The Lane Calibration Unit after a chain reset: its interval count loaded from the table, all else at the reset value (R130). -/
@[simp] theorem State.chainReset_cal (s : State) : s.chainReset.cal = { count := s.tables.reload } := by
  rw [s.chainReset_eq]

/-- Every lane is ONLINE after a chain reset (R130). -/
@[simp] theorem State.chainReset_lane (s : State) (i : SiteNo) : (s.chainReset.site i).lane = .online := by
  simp only [State.chainReset, State.site, mapVector_get, Site.chainReset]

/-- Calibration reset over given tables (R130): the lanes ONLINE, nothing of a run or of the rotation left, the interval count as given. -/
structure State.CalibrationReset (count : Half) (tables : Tables) (t : State) : Prop where
  lane : ∀ i : SiteNo, (t.site i).lane = .online
  cal : t.cal = { count := count }
  tables : t.tables = tables

/-- Whether calibration is reset depends on the sites, the calibration items and the tables only. -/
theorem State.CalibrationReset.congr {count : Half} {tables : Tables} {t u : State} (h : t.CalibrationReset count tables)
    (hsites : u.sites = t.sites) (hcal : u.cal = t.cal) (htables : u.tables = t.tables) : u.CalibrationReset count tables :=
  ⟨fun i => by rw [State.site_congr hsites]; exact h.lane i, hcal.trans h.cal, htables.trans h.tables⟩

/-- Power-on reset resets calibration over the power-on tables of the factory phases (R130). -/
theorem State.powerOn_calibrationReset (s : State) :
    s.powerOn.CalibrationReset 1000 (Tables.powerOn s.tables.factory) :=
  ⟨fun i => by simp [State.powerOn, State.reset, State.site, Vector.get], rfl, rfl⟩

/-- A chain reset resets calibration over the tables it keeps (R130). -/
theorem State.chainReset_calibrationReset (s : State) : s.chainReset.CalibrationReset s.tables.reload s.tables :=
  ⟨s.chainReset_lane, s.chainReset_cal, s.chainReset_tables⟩

/-- The assertion of CRST_N resets calibration as every chain reset does (R150). -/
theorem State.lineReset_calibrationReset (s : State) : s.lineReset.CalibrationReset s.tables.reload s.tables := by
  apply s.chainReset_calibrationReset.congr <;> simp only [State.lineReset]

/-- RESET PART resets calibration as every chain reset does (R151). -/
theorem State.reqResetPart_calibrationReset (s : State) (c : Ctl) :
    (s.reqResetPart c).CalibrationReset s.tables.reload s.tables := by
  apply s.chainReset_calibrationReset.congr <;>
    simp only [State.reqResetPart, State.partReset, State.answer_sites, State.answer_cal, State.answer_tables]

/-- After a reset the spare stands at its factory phase (R106, R130). -/
theorem State.CalibrationReset.sparePhase {count : Half} {tables : Tables} {t : State}
    (h : t.CalibrationReset count tables) : t.sparePhase = tables.factory.get 16 := by
  simp [State.sparePhase, State.spareFactory, h.cal, h.tables]

/-- After a reset the own sampler of a site stands at the lane phase of its TRIM entry (R106, R130). -/
theorem State.CalibrationReset.ownPhase {count : Half} {tables : Tables} {t : State}
    (h : t.CalibrationReset count tables) (i : SiteNo) : t.ownPhase i = (tables.trim.get i).phase := by
  simp [State.ownPhase, State.trim, h.lane i, h.tables]

/-- The lane phase that power-on reset gives a site is the factory phase of its sampler (R130). -/
theorem Tables.powerOn_phase (factory : Vector Phase 17) (i : SiteNo) :
    ((Tables.powerOn factory).trim.get i).phase = factory.get (i.castLE (by decide)) := by
  simp [Tables.powerOn, Vector.get_ofFn]

/-- The order table after power-on reset names each site at its own position (section 1.9). -/
theorem Tables.powerOn_order (factory : Vector Phase 17) (i : SiteNo) : (Tables.powerOn factory).order.get i = i := by
  simp [Tables.powerOn, Vector.get_ofFn]

/-- The Return Merger and the Notice Unit reset (R173, R191): empty but for given responses, with a given raw log and mask. -/
structure State.ReturnReset (responses : List Frame) (rawLog : Half) (mask : Byte) (t : State) : Prop where
  ret : ∃ hofIn : Bool, t.ret = { hofIn := hofIn, responses := responses, rawLog := rawLog }
  notice : t.notice = { mask := mask }

/-- Power-on reset clears the raw log and the notice mask too (R173, R191). -/
theorem State.powerOn_returnReset (s : State) : s.powerOn.ReturnReset [] 0 0 := ⟨⟨s.ret.hofIn, rfl⟩, rfl⟩

/-- The assertion of CRST_N keeps the raw log and the notice mask (R173, R191). -/
theorem State.lineReset_returnReset (s : State) : s.lineReset.ReturnReset [] s.ret.rawLog s.notice.mask :=
  ⟨⟨s.ret.hofIn, s.chainReset_ret⟩, s.chainReset_notice⟩

/-- The Return Merger after RESET PART: nothing but the response, the raw log and the hold-off line as driven (R173, R187). -/
theorem State.reqResetPart_ret (s : State) (c : Ctl) :
    (s.reqResetPart c).ret =
      { hofIn := s.ret.hofIn, responses := (s.reqResetPart c).ret.responses, rawLog := s.ret.rawLog } := by
  simp only [State.reqResetPart, State.partReset, State.answer_ret, State.chainReset_ret]

/-- RESET PART leaves its own response only, and keeps the raw log and the notice mask (R173, R187, R191). -/
theorem State.reqResetPart_returnReset (s : State) (c : Ctl) :
    let t := s.reqResetPart c
    t.ReturnReset [t.responseBytes c 0x03 0 [0x04, 0x16, s.revision, 2, t.source]] s.ret.rawLog s.notice.mask := by
  intro t
  have hresponses : t.ret.responses = [t.responseBytes c 0x03 0 [0x04, 0x16, s.revision, 2, t.source]] :=
    s.reqResetPart_responses c
  exact ⟨⟨s.ret.hofIn, hresponses ▸ s.reqResetPart_ret c⟩, s.reqResetPart_notice c⟩

/-- The return slot of a part whose CRST_N is held asserted sends IDLE and changes nothing else (R173). -/
theorem State.returnSlot_of_held {s : State} (h : s.link.crst = true) : s.returnSlot = s.transmit s.idleUp := by
  simp [State.returnSlot, h]

/-- A part whose CRST_N is held asserted counts a bad frame of the return input and ignores any other (R155, R173). -/
theorem State.takeReturn_of_held {s : State} (f : Frame) (h : s.link.crst = true) :
    s.takeReturn f = if frameGood f then s else { s with ret := { s.ret with checkErrors := satAdd s.ret.checkErrors 1 } } := by
  by_cases hgood : frameGood f = true <;> simp [State.takeReturn, hgood, h]

end Sys2Proof.Machine
end

section
/-! PROOFS. The statement on calibration, the Return Merger and the Notice Unit after each reset, and on the return link in reset (R130, R173). -/

namespace Sys2Proof.Machine

/-- Settles O7: each reset leaves calibration reset over its tables, and the Return Merger and Notice Unit reset, from which every item is read; a held line stops the return slot and the FIFO before either looks at the queues. -/
theorem calibrationAndReturnLinkAfterResets : Obligations.CalibrationAndReturnLinkAfterResets := by
  unfold Obligations.CalibrationAndReturnLinkAfterResets
  refine ⟨?calibration, ?returnLink⟩
  case calibration =>
    intro rested chained
    have rested_of {count : Half} {tables : Tables} {t : State} (h : t.CalibrationReset count tables) :
        rested tables.factory t := by
      simp only [rested, h.lane, h.cal, h.sparePhase, h.tables, LaneState.carrier, and_self, implies_true]
    have chained_of {s t : State} (h : t.CalibrationReset s.tables.reload s.tables) : chained s t :=
      ⟨rested_of h, by rw [h.cal], h.tables, h.ownPhase⟩
    refine ⟨fun s => ?powerOn, fun s h => ?line, fun s c params h => ?part⟩
    case powerOn =>
      have hreset := s.begin.powerOn_calibrationReset
      have hphase := Tables.powerOn_phase s.tables.factory
      exact ⟨s.begin.powerOn, rfl, rested_of (tables := .powerOn s.tables.factory) hreset, rfl, rfl, rfl, rfl, fun i =>
        ⟨Tables.powerOn_order _ i, (hreset.ownPhase i).trans (hphase i), hphase i⟩⟩
    case line =>
      let held : State := { s.begin with link := { s.link with crst := true } }
      exact ⟨held.lineReset, exec_crstAsserted_of_released h, chained_of held.lineReset_calibrationReset⟩
    case part =>
      have hreset := (s.controlSlot c 0x03 params).reqResetPart_calibrationReset c
      rw [s.controlSlot_tables] at hreset
      exact ⟨_, exec_resetPart_of_executes params h, chained_of hreset⟩
  case returnLink =>
    intro cleared
    have cleared_of {responses : List Frame} {rawLog : Half} {mask : Byte} {t : State}
        (h : t.ReturnReset responses rawLog mask) :
        cleared t ∧ t.ret.responses = responses ∧ t.ret.rawLog = rawLog ∧ t.notice.mask = mask := by
      obtain ⟨⟨hofIn, hret⟩, hnotice⟩ := h
      simp [cleared, hret, hnotice]
    refine ⟨fun s => ⟨_, rfl, cleared_of s.begin.powerOn_returnReset⟩, fun s h => ?line, fun s c params h => ?part,
      fun s h => ⟨?slot, fun f => ?frame⟩⟩
    case line =>
      let held : State := { s.begin with link := { s.link with crst := true } }
      exact ⟨held.lineReset, exec_crstAsserted_of_released h, cleared_of held.lineReset_returnReset⟩
    case part =>
      have hreset := (s.controlSlot c 0x03 params).reqResetPart_returnReset c
      rw [s.controlSlot_revision, s.controlSlot_rawLog, s.controlSlot_mask] at hreset
      exact ⟨_, exec_resetPart_of_executes params h, cleared_of hreset⟩
    case slot =>
      refine ⟨s.begin.returnSlot, rfl, ?_⟩
      rw [State.returnSlot_of_held (s := s.begin) h]
      simp [State.idleUp, returnFrame]
    case frame =>
      refine ⟨s.begin.takeReturn f, rfl, ?_⟩
      rw [State.takeReturn_of_held (s := s.begin) f h]
      split <;> exact ⟨rfl, rfl⟩

end Sys2Proof.Machine
end

section
/-! PROOFS. The frame sent on (R143): that the expiry, the expansion, a link loss, calibration and the tables leave it as the Forwarder sent it. -/

namespace Sys2Proof.Machine

/-- What each site's operation leaves of the frame sent on, the operation done for all sites leaves. -/
theorem forSites_sent {op : SiteNo → State → State} (h : ∀ i t, (op i t).out.down = t.out.down) (s : State) :
    (forSites op s).out.down = s.out.down :=
  forSites_eq (fun t => t.out.down) h s

/-- A grant leaves the frame sent on as it is (R25). -/
@[simp] theorem State.grant_sent (s : State) (i : SiteNo) : (s.grant i).out.down = s.out.down := rfl

/-- The report of an empty queue leaves the frame sent on as it is (R34). -/
@[simp] theorem State.grantIfEmpty_sent (s : State) (i : SiteNo) : (s.grantIfEmpty i).out.down = s.out.down := by
  obtain ⟨h, -⟩ | ⟨h, -⟩ := grantIfEmpty_cases s i <;> rw [h]
  exact s.grant_sent i

/-- A port that parks leaves the frame sent on as it is (R24). -/
@[simp] theorem State.parkPort_sent (s : State) (i : SiteNo) : (s.parkPort i).out.down = s.out.down := by
  unfold State.parkPort
  split <;> rfl

/-- A site that leaves ENABLED leaves the frame sent on as it is (R28). -/
@[simp] theorem State.vacate_sent (s : State) (i : SiteNo) : (s.vacate i).out.down = s.out.down := by
  unfold State.vacate
  split <;> simp

/-- An expiry test leaves the frame sent on as it is (R48). -/
@[simp] theorem State.expireSite_sent (s : State) (i : SiteNo) : (s.expireSite i).out.down = s.out.down := by
  unfold State.expireSite
  split <;> simp

/-- The expiry tests of a slot leave the frame sent on as it is (R48). -/
@[simp] theorem State.expireSites_sent (s : State) : s.expireSites.out.down = s.out.down := by
  unfold State.expireSites
  exact forSites_sent (fun i t => t.expireSite_sent i) s

/-- The end of a drain leaves the outputs as they are (R96). -/
@[simp] theorem State.settleDrain_out (s : State) : s.settleDrain.out = s.out := (settleDrain_only s).out

/-- A notice flag leaves the outputs as they are (R165). -/
@[simp] theorem State.raiseFlag_out (s : State) (f : NoticeFlag) : (s.raiseFlag f).out = s.out := (raiseFlag_only s f).out

/-- The expiry tests with the end of a drain leave the frame sent on as it is (R48). -/
@[simp] theorem State.expireAll_sent (s : State) : s.expireAll.out.down = s.out.down := by
  unfold State.expireAll
  split <;> simp

/-- A slot's expiry tests and NOPs leave the frame sent on as it is (R23, R48). -/
@[simp] theorem State.plainSlot_sent (s : State) : s.plainSlot.out.down = s.out.down := by
  unfold State.plainSlot State.slotNops
  rw [forSites_sent fun i t => by split <;> rfl, State.expireAll_sent]

/-- The outcome of an expanded frame at one port leaves the frame sent on as it is (R20). -/
@[simp] theorem State.issue_sent (s : State) (c : Cycle) (i : SiteNo) : (s.issue c i).out.down = s.out.down := by
  unfold State.issue
  split
  case h_1 => split <;> [rfl; rfl; (split <;> rfl)]
  case h_2 => split <;> [rfl; (dsimp only; split <;> rfl)]
  case h_3 => rfl

/-- The outcomes at the ports named leave the frame sent on as it is (R20). -/
@[simp] theorem State.issueWhere_sent (s : State) (c : Cycle) (p : SiteNo → Bool) :
    (s.issueWhere c p).out.down = s.out.down := by
  unfold State.issueWhere
  exact forSites_sent (fun i t => by split <;> simp) s

/-- The tracking of a cycle number leaves the outputs as they are (R15). -/
@[simp] theorem State.trackCycle_out (s : State) (n : Half) : (s.trackCycle n).out = s.out := by
  unfold State.trackCycle
  dsimp only
  split <;> rfl

/-- The slot of an expanded CYCLE leaves the frame sent on as it is, in every order of expiry and expansion (R14, R22). -/
@[simp] theorem State.cycleSlot_sent (s : State) (c : Cycle) : (s.cycleSlot c).out.down = s.out.down := by
  unfold State.cycleSlot
  split
  · simp [State.cycleInOrder]
  · simp [State.expand]

/-- The flush of every queue leaves the frame sent on as it is (R53). -/
@[simp] theorem State.flushAll_sent (s : State) : s.flushAll.out.down = s.out.down := by
  have hgrants (t : State) :
      (forSites (fun i t => if (s.site i).queue = [] then t else t.grantIfEmpty i) t).out.down = t.out.down :=
    forSites_sent (fun i t => by split <;> simp) t
  unfold State.flushAll
  dsimp only
  split <;> simp [hgrants]

/-- A link loss leaves the frame sent on as it is (R138). -/
@[simp] theorem State.linkLoss_sent (s : State) : s.linkLoss.out.down = s.out.down := by
  unfold State.linkLoss
  dsimp only
  rw [forSites_sent fun i t => t.parkPort_sent i, State.flushAll_sent]

/-- The attempt to start a run leaves the outputs as they are (R113). -/
@[simp] theorem State.attemptRun_out (s : State) : s.attemptRun.out = s.out := by rw [attemptRun_spec]

/-- The end of a run leaves the outputs as they are (R124). -/
@[simp] theorem State.endRun_out (s : State) : s.endRun.out = s.out := by
  unfold State.endRun
  split <;> simp

/-- A departure from ENABLED leaves the outputs as they are (R126, R128). -/
@[simp] theorem State.departure_out (s : State) (i : SiteNo) : (s.departure i).out = s.out := by
  obtain h | ⟨-, -, h | ⟨-, h⟩⟩ := departure_cases s i <;> rw [h]
  · exact s.endRun_out
  · rw [completeRun_spec, State.attemptRun_out]; rfl

/-- SET SITES over the sixteen sites leaves the frame sent on as it is (R29). -/
@[simp] theorem State.applySites_sent (s : State) (enable drop : Half) : (s.applySites enable drop).out.down = s.out.down := by
  have hconditions (f : SiteNo → Site → Site) (t : State) : (forSites (fun i t => t.onSite i (f i)) t).out.down = t.out.down :=
    forSites_sent (fun _ _ => rfl) t
  have hvacates (left : SiteNo → Bool) (t : State) :
      (forSites (fun i t => if left i then t.vacate i else t) t).out.down = t.out.down :=
    forSites_sent (fun i t => by split <;> simp) t
  have hdepartures (left : SiteNo → Bool) (t : State) :
      (forSites (fun i t => if left i then t.departure i else t) t).out.down = t.out.down :=
    forSites_sent (fun i t => by split <;> simp) t
  unfold State.applySites
  dsimp only
  split
  · rw [(raiseDropped_only _ _).out, hdepartures, hvacates, hconditions]
  · split
    · rw [State.settleDrain_out, hdepartures, hvacates, hconditions]
    · rw [hdepartures, hvacates, hconditions]

/-- The entries of a WRITE TABLE leave the outputs as they are (R9). -/
theorem State.writeEntries_out (id : TableId) (n : Nat) : ∀ (s : State) (index : Nat) (bytes : List Byte) (applied : Nat)
    (clamped : Bool), (s.writeEntries id n index bytes applied clamped).state.out = s.out := by
  induction n with
  | zero => intros; rfl
  | succ n ih =>
    intro s index bytes applied clamped
    unfold State.writeEntries
    split
    next => rfl
    next t c h => rw [ih, writeEntry_tables s t _ _ _ c h]

/-- A WRITE TABLE leaves the outputs as they are (R8, R9). -/
@[simp] theorem State.writeTable_out (s : State) (inPass : Bool) (table start count : Byte) (entries : List Byte) :
    (s.writeTable inPass table start count entries).state.out = s.out := by
  unfold State.writeTable
  split
  · rfl
  · split_ifs
    exacts [rfl, rfl, rfl, State.writeEntries_out ..]

/-- The re-arming of sites leaves the outputs as they are (R40). -/
@[simp] theorem foldl_onSite_out (f : Site → Site) (l : List SiteNo) (s : State) :
    (l.foldl (fun t i => t.onSite i f) s).out = s.out := by
  induction l generalizing s with
  | nil => rfl
  | cons i l ih => exact ih (s.onSite i f)

end Sys2Proof.Machine
end

section
/-! PROOFS. The frame sent on, kept by every request and by the search for alignment; a frame event outside DOWN sends exactly one frame (R132, R143). -/

namespace Sys2Proof.Machine

/-- RESET PART leaves the frame sent on as it is: its ports park (R187). -/
@[simp] theorem State.reqResetPart_sent (s : State) (c : Ctl) : (s.reqResetPart c).out.down = s.out.down := by
  have hpark : s.chainReset.out.down = s.out.down := by
    dsimp only [State.chainReset]
    rw [forSites_sent fun i t => t.parkPort_sent i]
  simpa [State.reqResetPart, State.partReset] using hpark

/-- RESYNC leaves the frame sent on as it is (R149). -/
@[simp] theorem State.reqResync_sent (s : State) (c : Ctl) : (s.reqResync c).out.down = s.out.down := by
  unfold State.reqResync
  split <;> simp

/-- ENUMERATE leaves the outputs as they are (R146). -/
@[simp] theorem State.reqEnumerate_out (s : State) (c : Ctl) (p : Byte) : (s.reqEnumerate c p).out = s.out := by
  unfold State.reqEnumerate
  split_ifs <;> simp

/-- WRITE TABLE leaves the outputs as they are (R8). -/
@[simp] theorem State.reqWriteTable_out (s : State) (c : Ctl) (table start count : Byte) (entries : List Byte) :
    (s.reqWriteTable c table start count entries).out = s.out := by
  simp [State.reqWriteTable]

/-- READ HEAD STATUS leaves the outputs as they are (R40). -/
@[simp] theorem State.reqReadHeadStatus_out (s : State) (c : Ctl) (first count : Byte) :
    (s.reqReadHeadStatus c first count).out = s.out := by
  unfold State.reqReadHeadStatus
  split <;> simp

/-- READ SITE COUNTS leaves the outputs as they are (R59). -/
@[simp] theorem State.reqReadSiteCounts_out (s : State) (c : Ctl) (site chunk : Byte) :
    (s.reqReadSiteCounts c site chunk).out = s.out := by
  unfold State.reqReadSiteCounts
  split <;> simp

/-- READ SITE ANALYSIS leaves the outputs as they are (R83). -/
@[simp] theorem State.reqReadSiteAnalysis_out (s : State) (c : Ctl) (site region chunk : Byte) :
    (s.reqReadSiteAnalysis c site region chunk).out = s.out := by
  unfold State.reqReadSiteAnalysis
  split <;> simp

/-- OPEN PASS leaves the outputs as they are (R90). -/
@[simp] theorem State.reqOpenPass_out (s : State) (c : Ctl) (number : Byte) : (s.reqOpenPass c number).out = s.out := by
  unfold State.reqOpenPass
  split <;> simp

/-- CLOSE PASS leaves the outputs as they are (R94). -/
@[simp] theorem State.reqClosePass_out (s : State) (c : Ctl) : (s.reqClosePass c).out = s.out := by
  unfold State.reqClosePass
  split <;> simp

/-- A CAL CONTROL by its action leaves the outputs as they are (R111). -/
@[simp] theorem State.reqCalControl_out (s : State) (c : Ctl) (action site : Byte) :
    (s.reqCalControl c action site).out = s.out := by
  unfold State.reqCalControl
  split
  case h_1 => unfold State.reqCalStart State.calStart; split <;> rfl
  case h_2 => unfold State.reqCalStop State.calStop; split <;> rfl
  case h_3 => unfold State.reqCalAbort State.calAbort State.answerCal; split <;> simp
  case h_4 => unfold State.reqCalRetry; dsimp only; split_ifs <;> rfl
  case h_5 => rfl
  case h_6 => rfl

/-- Every request leaves the frame sent on as it is: the frame was sent in the slot that brought the request (R143, R178). -/
theorem State.requestOf_sent (s : State) (c : Ctl) (code : Byte) (params : List Byte) :
    (s.requestOf c code params).out.down = s.out.down := by
  unfold State.requestOf
  split <;>
    simp [State.reqReadStatus, State.reqSetReporting, State.reqClearFlags, State.reqReadTable, State.reqSetSites,
      State.reqUnknown]

/-- A request taken, lost or left alone leaves the frame sent on as it is (R175, R176). -/
theorem State.request_sent {run : State → State} (h : ∀ t, (run t).out.down = t.out.down) (s : State) (c : Ctl) :
    (s.request c run).out.down = s.out.down := by
  unfold State.request
  split_ifs
  · exact h s
  · rw [State.raiseFlag_out]
  · rfl

/-- A slot of the search for alignment leaves the outputs as they are (R134, R135). -/
@[simp] theorem State.seekSlot_out (s : State) (a : Arrival) : (s.seekSlot a).out = s.out := by
  have henter (k count : Byte) : (s.enterLive k count).out = s.out := by
    unfold State.enterLive
    dsimp only
    split
    · rw [State.raiseFlag_out]
    · rfl
  unfold State.seekSlot
  dsimp only
  split
  · split_ifs
    exacts [henter _ _, rfl, rfl]
  · rfl

/-- Exactly one frame is sent on for a frame that finds the receiver in SEEK or LIVE, the one the Forwarder chooses, whatever the frame's action (R132, R143). -/
theorem State.takeFrame_sent {act : State → State} (hact : ∀ t, (act t).out.down = t.out.down) {s : State} (f : Frame)
    (a : Arrival) (h : s.link.state ≠ .down) : (s.takeFrame f a act).out.down = some (s.outgoing f a) := by
  cases hs : s.link.state with
  | down => exact absurd hs h
  | seek => rw [takeFrame_seek s f a act hs]; simp
  | live =>
    cases hd : (s.link.count a).lossDue with
    | true => rw [takeFrame_loss s f a act hs hd]; simp
    | false => rw [takeFrame_live s f a act hs hd, hact]; rfl

end Sys2Proof.Machine
end

section
/-! PROOFS. Delivered frames as events: bytes written back where they were read (R193), the request of each CONTROL row, and the row of every delivered frame (R131, R145). -/

namespace Sys2Proof.Machine

/-- The member at a position, then the members after it, are the list from that position on. -/
theorem getD_cons_drop {l : List Byte} {i : Nat} (h : i < l.length) : l.getD i 0 :: l.drop (i + 1) = l.drop i := by
  rw [List.drop_eq_getElem_cons h, List.getD_eq_getElem _ _ h]

/-- The bytes of the 16-bit field that two bytes make (R193). -/
theorem be16_append (a b : Byte) : be16 (a ++ b) = [a, b] := by
  rw [be16, BitVec.extractLsb'_append_eq_left, BitVec.extractLsb'_append_eq_right]

/-- A 16-bit field written back where it was read (R193). -/
theorem be16_half_append {l : List Byte} {i : Nat} (h : i + 1 < l.length) : be16 (half l i) ++ l.drop (i + 2) = l.drop i := by
  rw [half, be16_append, ← getD_cons_drop (by omega : i < l.length), ← getD_cons_drop h]
  rfl

/-- A 32-bit field is its two 16-bit fields, the first the high one (R193). -/
theorem be32_append (a b : Half) : be32 (a ++ b) = be16 a ++ be16 b := by
  simp only [be32, be16, List.cons_append, List.nil_append, List.cons.injEq, and_true]
  exact ⟨BitVec.extractLsb'_append_eq_of_le (by decide), BitVec.extractLsb'_append_eq_of_le (by decide),
    BitVec.extractLsb'_append_eq_of_add_le (by decide), BitVec.extractLsb'_append_eq_of_add_le (by decide)⟩

/-- A 32-bit field written back where it was read (R193). -/
theorem be32_long_append {l : List Byte} {i : Nat} (h : i + 3 < l.length) : be32 (long l i) ++ l.drop (i + 4) = l.drop i := by
  rw [long, be32_append, List.append_assoc, be16_half_append (i := i + 2) h, be16_half_append (by omega)]

/-- A row is a frame event: executed, it takes the frame with what the receiver finds in it, and what its action does besides leaves the frame sent on as it is (R131, R132). -/
def TakesFrame (i : Instr) (f : Frame) (a : Arrival) : Prop :=
  ∃ act : State → State, (∀ t, (act t).out.down = t.out.down) ∧ ∀ s, exec i s = .next (s.begin.takeFrame f a act)

/-- The request of a CONTROL row is the one that its code and its parameter bytes name (R178, section 10.6). -/
theorem exec_control {i : Instr} {c : Ctl} {code : Byte} {params : List Byte} (h : controlOf i = some (c, code, params))
    (s : State) : exec i s = .next (s.begin.takeControl c code params fun t => t.requestOf c code params) := by
  cases i <;> simp only [controlOf, reduceCtorEq, Option.some.injEq, Prod.mk.injEq] at h <;>
    obtain ⟨rfl, rfl, rfl⟩ := h
  case setReporting c enables mask rest =>
    have hrun (t : State) : t.requestOf c 0x05 (be16 enables ++ mask :: rest) = t.reqSetReporting c enables mask :=
      congrArg (fun e => t.reqSetReporting c e mask) (half_be16 enables _)
    simp only [hrun]; rfl
  case setSites c enable drop rest =>
    have hrun (t : State) : t.requestOf c 0x20 (be16 enable ++ be16 drop ++ rest) = t.reqSetSites c enable drop :=
      congrArg₂ (fun e d => t.reqSetSites c e d) (half_be16 enable _) (half_be16 drop rest)
    simp only [hrun]; rfl
  all_goals rfl

/-- A CONTROL row is a frame event (R132, R175). -/
theorem takesFrame_control {i : Instr} {c : Ctl} {code : Byte} {params : List Byte} (h : controlOf i = some (c, code, params)) :
    TakesFrame i (controlFrame c code params) (.control (ctlTarget c) code) :=
  ⟨fun t => t.plainSlot.request c fun u => u.requestOf c code params,
    fun t => (State.request_sent (fun u => u.requestOf_sent c code params) t.plainSlot c).trans t.plainSlot_sent,
    exec_control h⟩

/-- What a CONTROL row carries is told by its code as a number and by its parameter bytes. -/
theorem control_ext {c : Ctl} {code code' : Byte} {p p' : List Byte} (hcode : code.toNat = code'.toNat) (hp : p' = p) :
    some (c, code', p') = some (c, code, p) := by
  rw [BitVec.eq_of_toNat_eq hcode, hp]

/-- The row of a CONTROL frame's 29 body bytes carries the header, the code and the 26 parameter bytes as they stand in the frame (sections 10.2, 10.5, 10.6). -/
theorem controlOf_decodeControl {b : List Byte} (h : b.length = 29) :
    controlOf (decodeControl b) = some ({ addr := b.getD 0 0, tag := b.getD 2 0 }, b.getD 1 0, b.drop 3) := by
  have hbyte {i : Nat} (hi : i < 29) : b.getD i 0 :: b.drop (i + 1) = b.drop i := getD_cons_drop (by omega)
  have hhalf {i : Nat} (hi : i < 28) : be16 (half b i) ++ b.drop (i + 2) = b.drop i := be16_half_append (by omega)
  have haction {k : Byte} (hk : (b.getD 3 0).toNat = k.toNat) : k :: b.getD 4 0 :: b.drop 5 = b.drop 3 := by
    rw [← BitVec.eq_of_toNat_eq hk, hbyte (by decide), hbyte (by decide)]
  unfold decodeControl
  dsimp only
  split
  case h_15 hcode =>
    split
    case h_6 => rfl
    all_goals rename_i hact; exact control_ext hcode (haction hact)
  case h_16 => rfl
  all_goals
    rename_i hcode
    exact control_ext hcode (by simp only [Nat.add_zero, Nat.reduceAdd, Nat.reduceLT, List.append_assoc, hbyte, hhalf])

/-- A row that takes a frame takes the same frame written otherwise. -/
theorem TakesFrame.congr {i : Instr} {f g : Frame} {a : Arrival} (h : TakesFrame i f a) (e : f = g) : TakesFrame i g a := e ▸ h

/-- IDLE_FRAME is a frame event (R141). -/
theorem takesFrame_idle (body : List Byte) : TakesFrame (.idleFrame body) (mkFrame kindIdle body) .idle :=
  ⟨State.plainSlot, State.plainSlot_sent, fun _ => rfl⟩

/-- ALIGN_FRAME is a frame event (R134, R136). -/
theorem takesFrame_align (k count : Byte) (rest : List Byte) :
    TakesFrame (.alignFrame k count rest) (alignFrameOf k count rest) (.align k count) :=
  ⟨State.plainSlot, State.plainSlot_sent, fun _ => rfl⟩

/-- CYCLE_FRAME is a frame event (R14). -/
theorem takesFrame_cycle (c : Cycle) : TakesFrame (.cycleFrame c) (cycleFrameOf c) .cycle :=
  ⟨fun t => t.cycleSlot c, fun t => t.cycleSlot_sent c, fun _ => rfl⟩

/-- EXERCISE_FRAME is a frame event (R142). -/
theorem takesFrame_exercise (seed : Half) (sequence : List Byte) :
    TakesFrame (.exerciseFrame seed sequence) (exerciseFrameOf seed sequence) .exercise :=
  ⟨fun t => t.plainSlot.exercise seed sequence, fun t => by rw [State.exercise_out, State.plainSlot_sent], fun _ => rfl⟩

/-- UNKNOWN_KIND_FRAME is a frame event (R141). -/
theorem takesFrame_unknown (kind : Byte) (body : List Byte) :
    TakesFrame (.unknownKindFrame kind body) (mkFrame kind body) .unknown :=
  ⟨fun t => { t.plainSlot with link := { t.plainSlot.link with unknownKinds := satAdd t.plainSlot.link.unknownKinds 1 } },
    fun t => by dsimp only; rw [State.plainSlot_sent], fun _ => rfl⟩

/-- A bad frame's action leaves the outputs as they are (R142, R144). -/
@[simp] theorem State.badAct_out (s : State) (f : Frame) : (s.badAct f).out = s.out := by
  unfold State.badAct
  split <;> rfl

/-- BAD_FRAME is a frame event (R144). -/
theorem takesFrame_bad (f : Frame) : TakesFrame (.badFrame f) f .bad :=
  ⟨fun t => t.plainSlot.badAct f, fun t => by simp, fun _ => rfl⟩

/-- The row of a CYCLE frame's body has that body (section 10.2). -/
theorem cycleFrameOf_fields {b : List Byte} (h : b.length = 29) :
    cycleFrameOf
      { op := b.getD 0 0, flags := b.getD 1 0, setByte := b.getD 2 0, address := long b 3
        data := half b 7, mask := half b 9, number := half b 11, rest := b.drop 13 } = mkFrame kindCycle b := by
  simp only [cycleFrameOf, List.append_assoc]
  rw [be16_half_append (i := 11) (by omega), be16_half_append (i := 9) (by omega), be16_half_append (i := 7) (by omega),
    be32_long_append (i := 3) (by omega), getD_cons_drop (i := 2) (by omega), getD_cons_drop (i := 1) (by omega),
    getD_cons_drop (i := 0) (by omega), List.drop_zero]

/-- The row of a good frame and what the receiver finds in it, kind by kind (R131, R141). -/
theorem decodeFrame_cases {f : Frame} (h : frameGood f = true) :
    (f.kind.toNat = 0 ∧ decodeFrame f = .idleFrame f.body ∧ arrivalOf f = .idle) ∨
    (f.kind.toNat = 1 ∧ decodeFrame f = .alignFrame (f.body.getD 0 0) (f.body.getD 1 0) (f.body.drop 2) ∧
      arrivalOf f = .align (f.body.getD 0 0) (f.body.getD 1 0)) ∨
    (f.kind.toNat = 2 ∧
      decodeFrame f = .cycleFrame
        { op := f.body.getD 0 0, flags := f.body.getD 1 0, setByte := f.body.getD 2 0, address := long f.body 3
          data := half f.body 7, mask := half f.body 9, number := half f.body 11, rest := f.body.drop 13 } ∧
      arrivalOf f = .cycle) ∨
    (f.kind.toNat = 3 ∧ decodeFrame f = decodeControl f.body ∧
      arrivalOf f = .control ((f.body.getD 0 0).extractLsb' 0 4).toNat (f.body.getD 1 0)) ∨
    (f.kind.toNat = 4 ∧ decodeFrame f = .exerciseFrame (half f.body 0) (f.body.drop 2) ∧ arrivalOf f = .exercise) ∨
    (4 < f.kind.toNat ∧ decodeFrame f = .unknownKindFrame f.kind f.body ∧ arrivalOf f = .unknown) := by
  unfold decodeFrame arrivalOf
  rw [if_pos h, if_pos h]
  generalize f.kind.toNat = n
  match n with
  | 0 => exact .inl ⟨rfl, rfl, rfl⟩
  | 1 => exact .inr (.inl ⟨rfl, rfl, rfl⟩)
  | 2 => exact .inr (.inr (.inl ⟨rfl, rfl, rfl⟩))
  | 3 => exact .inr (.inr (.inr (.inl ⟨rfl, rfl, rfl⟩)))
  | 4 => exact .inr (.inr (.inr (.inr (.inl ⟨rfl, rfl, rfl⟩))))
  | n + 5 => exact .inr (.inr (.inr (.inr (.inr ⟨by omega, rfl, rfl⟩))))

/-- The row of a delivered frame is the event of that frame's arrival, for every frame of 32 bytes (R131, R132). -/
theorem takesFrame_decodeFrame {f : Frame} (hf : wholeFrame f = true) : TakesFrame (decodeFrame f) f (arrivalOf f) := by
  have hlen : f.body.length = 29 := by simpa only [wholeFrame, beq_iff_eq] using hf
  have hbyte {i : Nat} (hi : i < 29) : f.body.getD i 0 :: f.body.drop (i + 1) = f.body.drop i := getD_cons_drop (by omega)
  cases hgood : frameGood f with
  | false =>
    have hrow : decodeFrame f = .badFrame f := if_neg (by rw [hgood]; exact Bool.false_ne_true)
    have harrival : arrivalOf f = .bad := if_neg (by rw [hgood]; exact Bool.false_ne_true)
    rw [hrow, harrival]
    exact takesFrame_bad f
  | true =>
    have hframe {k : Byte} (hk : f.kind.toNat = k.toNat) : mkFrame k f.body = f := by
      rw [← BitVec.eq_of_toNat_eq hk, ← eq_mkFrame_of_good f hlen hgood]
    obtain ⟨hk, hrow, harrival⟩ | ⟨hk, hrow, harrival⟩ | ⟨hk, hrow, harrival⟩ | ⟨hk, hrow, harrival⟩ | ⟨hk, hrow, harrival⟩ |
      ⟨-, hrow, harrival⟩ := decodeFrame_cases hgood <;> rw [hrow, harrival]
    · exact (takesFrame_idle f.body).congr (hframe hk)
    · have halign : alignFrameOf (f.body.getD 0 0) (f.body.getD 1 0) (f.body.drop 2) = f := by
        rw [alignFrameOf, hbyte (i := 1) (by decide), hbyte (i := 0) (by decide)]
        exact hframe hk
      exact (takesFrame_align ..).congr halign
    · exact (takesFrame_cycle _).congr ((cycleFrameOf_fields hlen).trans (hframe hk))
    · refine (takesFrame_control (controlOf_decodeControl hlen)).congr ?_
      rw [controlFrame, hbyte (i := 2) (by decide), hbyte (i := 1) (by decide), hbyte (i := 0) (by decide)]
      exact hframe hk
    · have hexercise : exerciseFrameOf (half f.body 0) (f.body.drop 2) = f := by
        rw [exerciseFrameOf, be16_half_append (i := 0) (by omega)]
        exact hframe hk
      exact (takesFrame_exercise ..).congr hexercise
    · exact (takesFrame_unknown f.kind f.body).congr (hframe rfl)

end Sys2Proof.Machine
end

section
/-! PROOFS. What a link loss and a slot leave of the link, the chain position and the responses (R138), and the forwarding table of R143 as one equation. -/

namespace Sys2Proof.Machine

/-- A link loss changes the link and marks the loss outstanding, then the sites and the outputs, what the end of a drain writes, and the outputs with the sites again (R53, R96, R138). -/
theorem State.linkLoss_changes (s : State) : ∃ t u,
    SitesOnly { s with
      link := { s.link with state := .seek, candidate := none, position := none, missRun := 0, errorRun := 0 }
      notice := { s.notice with lossOutstanding := true } } t ∧
    ReportsOnly t u ∧ SitesOnly u s.linkLoss := by
  have hgrants (s t : State) :
      SitesOnly t (forSites (fun i t => if (s.site i).queue = [] then t else t.grantIfEmpty i) t) :=
    forSites_only (fun i t => by
      split
      · exact .rfl t
      · exact grantIfEmpty_only t i) t
  have hflush (s : State) : ∃ t, SitesOnly s t ∧ ReportsOnly t s.flushAll := by
    unfold State.flushAll
    dsimp only
    have hsites : SitesOnly s (s.onSites fun x => x.flushed (s.pass.state == .opened)) := Eq.refl _
    split
    · exact ⟨_, hsites.trans (hgrants s _), settleDrain_only _⟩
    · exact ⟨_, hsites.trans (hgrants s _), .rfl _⟩
  obtain ⟨t, ht, hu⟩ := hflush { s with
    link := { s.link with state := .seek, candidate := none, position := none, missRun := 0, errorRun := 0 }
    notice := { s.notice with lossOutstanding := true } }
  exact ⟨t, _, ht, hu, forSites_only (fun i t => parkPort_only t i) _⟩

/-- A link loss leaves the chain position and the response queue alone (R138). -/
theorem State.linkLoss_keeps (s : State) :
    s.linkLoss.chainPos = s.chainPos ∧ s.linkLoss.ret.responses = s.ret.responses := by
  obtain ⟨t, u, ht, hu, hloss⟩ := s.linkLoss_changes
  exact ⟨by rw [hloss.chainPos, hu.chainPos, ht.chainPos], by rw [hloss.ret, hu.responses, ht.ret]⟩

/-- The link after a link loss: SEEK without a candidate, the runs 0, the counters as they were (R138). -/
theorem State.linkLoss_link (s : State) : s.linkLoss.link =
    { s.link with state := .seek, candidate := none, position := none, missRun := 0, errorRun := 0 } := by
  obtain ⟨t, u, ht, hu, hloss⟩ := s.linkLoss_changes
  rw [hloss.link, hu.link, ht.link]

/-- A slot's expiry tests and NOPs leave the link alone (R23, R48). -/
theorem State.plainSlot_link (s : State) : s.plainSlot.link = s.link := by
  obtain ⟨t, ht, hu⟩ := s.expireAll_changes
  rw [State.plainSlot, (slotNops_only _).link, hu.link, ht.link]

/-- The arrival of a frame whose check is bad (R131). -/
theorem arrivalOf_bad {f : Frame} (h : frameGood f = false) : arrivalOf f = .bad := by simp [arrivalOf, h]

/-- The arrival of a good CONTROL frame (R131). -/
theorem arrivalOf_control {f : Frame} (h : frameGood f = true) (hk : f.kind = 0x03) :
    arrivalOf f = .control ((f.body.getD 0 0).extractLsb' 0 4).toNat (f.body.getD 1 0) := by
  simp [arrivalOf, h, hk]

/-- A good frame that is no CONTROL frame is sent on as received (R143). -/
theorem State.outgoing_of_no_control (s : State) {f : Frame} (h : frameGood f = true) (hk : f.kind ≠ 0x03) :
    s.outgoing f (arrivalOf f) = f := by
  simp only [arrivalOf, h, if_true]
  split
  case h_4 h3 => exact absurd (BitVec.eq_of_toNat_eq h3) hk
  all_goals rfl

/-- The table of R143, whole: a bad frame poisoned, in LIVE a CONTROL frame addressed to the part replaced and a broadcast ENUMERATE advanced, every other frame as received (R144, R147). -/
theorem State.outgoing_arrivalOf (s : State) (f : Frame) : s.outgoing f (arrivalOf f) =
    if frameGood f = false then poisoned f
    else if s.link.state = .live ∧ f.kind = 0x03 ∧
        s.chainPos.map Fin.val = some ((f.body.getD 0 0).extractLsb' 0 4).toNat then idleDown
    else if s.link.state = .live ∧ f.kind = 0x03 ∧
        ((f.body.getD 0 0).extractLsb' 0 4).toNat = 15 ∧ f.body.getD 1 0 = 0x01 then
      mkFrame 0x03 (f.body.set 3 (advancedPosition (f.body.getD 3 0)))
    else f := by
  cases hgood : frameGood f with
  | false => rw [arrivalOf_bad hgood, if_pos rfl]; rfl
  | true =>
    by_cases hk : f.kind = 0x03
    · rw [arrivalOf_control hgood hk]
      by_cases hlive : s.link.state = .live <;> simp [State.outgoing, State.addressed, advanced, hlive, hk]
    · rw [s.outgoing_of_no_control hgood hk]
      simp only [hk, false_and, and_false, reduceCtorEq, if_false]

/-- Outside LIVE a good frame is sent on as received and a bad one poisoned (R143, R144). -/
theorem State.outgoing_of_not_live {s : State} (h : s.link.state ≠ .live) (f : Frame) :
    s.outgoing f (arrivalOf f) = if frameGood f then f else poisoned f := by
  rw [s.outgoing_arrivalOf]
  cases hgood : frameGood f <;> simp [h]

end Sys2Proof.Machine
end

section
/-! PROOFS. The statement on the frame sent on for each frame received (R143). -/

namespace Sys2Proof.Machine

/-- Settles O12: the row of a delivered frame is its event, an event outside DOWN sends the frame the Forwarder chooses, which is the table's, and one that completes a link loss is not acted on. -/
theorem forwarderSendsOneFramePerSlot : Obligations.ForwarderSendsOneFramePerSlot := by
  unfold Obligations.ForwarderSendsOneFramePerSlot
  intro f s hf
  obtain ⟨act, hact, hexec⟩ := takesFrame_decodeFrame hf
  refine ⟨fun hdown => ?down, fun hup => ?up⟩
  case down => rw [hexec, takeFrame_down s.begin _ _ _ hdown]
  case up =>
    refine ⟨_, hexec s, fun hlive hloss => ?loss, ?sent⟩
    case loss =>
      rw [takeFrame_loss s.begin f _ act hlive hloss]
      exact State.linkLoss_keeps _
    case sent =>
      rw [State.takeFrame_sent hact (s := s.begin) f _ hup]
      exact congrArg some (s.outgoing_arrivalOf f)

end Sys2Proof.Machine
end

section
/-! PROOFS. A bad frame: its check error, its poisoned form and its action (R137, R144), and the statement on it. -/

namespace Sys2Proof.Machine

/-- A poisoned frame is bad: its check is the complement of the one its kind and body call for (R144). -/
theorem frameGood_poisoned (f : Frame) : frameGood (poisoned f) = false := by
  simp [frameGood, poisoned]

/-- A bad frame's action leaves the check error counter alone (R142, R144). -/
theorem State.badAct_checkErrors (s : State) (f : Frame) : (s.badAct f).link.checkErrors = s.link.checkErrors := by
  unfold State.badAct
  split <;> rfl

/-- The frame that BAD_FRAME takes, with its action (R144). -/
theorem exec_badFrame (f : Frame) (s : State) :
    exec (.badFrame f) s = .next (s.begin.takeFrame f .bad fun t => t.plainSlot.badAct f) := rfl

/-- A bad frame taken in LIVE is one check error, whether or not its slot completes a link loss (R137). -/
theorem State.takeFrame_bad_checkErrors {s : State} (h : s.link.state = .live) (f : Frame) :
    (s.takeFrame f .bad fun t => t.plainSlot.badAct f).link.checkErrors = satAdd s.link.checkErrors 1 := by
  cases hd : (s.link.count .bad).lossDue with
  | true => rw [takeFrame_loss s f _ _ h hd, State.linkLoss_link]; rfl
  | false => rw [takeFrame_live s f _ _ h hd, State.badAct_checkErrors, State.plainSlot_link]; rfl

/-- A bad frame that the part acts on: its slot, then the compare of an EXERCISE frame or nothing (R141, R142). -/
theorem exec_badFrame_of_actsOn {s : State} (f : Frame) (h : s.actsOn .bad = true) :
    exec (.badFrame f) s = .next ((s.slotOf f .bad).badAct f) := by
  simp only [State.actsOn, Bool.and_eq_true, Bool.not_eq_true', beq_iff_eq] at h
  obtain ⟨hlive, hloss⟩ := h
  rw [exec_badFrame, takeFrame_live s.begin f _ _ hlive hloss]
  rfl

/-- Settles O13: the complement of a check differs from it, so a poisoned frame is bad, and poisoned again it is the same; the event of a bad frame sends it on, counts it, and acts on it by the compare of an EXERCISE frame alone. -/
theorem badFramesTravelPoisoned : Obligations.BadFramesTravelPoisoned := by
  unfold Obligations.BadFramesTravelPoisoned
  intro f s _ p
  refine ⟨frameGood_poisoned f, rfl, fun hup => ?sent, fun hlive => ?counted, fun hacts hkind => ?other,
    fun hacts hkind => ?exercise⟩
  case sent =>
    obtain ⟨act, hact, hexec⟩ := takesFrame_bad f
    exact ⟨_, hexec s, State.takeFrame_sent hact (s := s.begin) f .bad hup⟩
  case counted => exact ⟨_, exec_badFrame f s, State.takeFrame_bad_checkErrors (s := s.begin) hlive f⟩
  case other =>
    have hidle : (s.slotOf f .bad).badAct f = s.slotOf f .bad := if_neg hkind
    rw [exec_badFrame_of_actsOn f hacts, hidle]
  case exercise =>
    have hcompare : (s.slotOf f .bad).badAct f = (s.slotOf f .bad).exercise (half f.body 0) (f.body.drop 2) := if_pos hkind
    rw [exec_badFrame_of_actsOn f hacts, hcompare]

end Sys2Proof.Machine
end

section
/-! PROOFS. The search for alignment in SEEK (R134, R135): a slot with empty queues, the three outcomes of the search, and the statement on it. -/

namespace Sys2Proof.Machine

/-- Where every queue is empty, ageing changes nothing (R44). -/
theorem State.ageAll_of_empty {s : State} (h : ∀ i : SiteNo, (s.site i).queue = []) : s.ageAll = s := by
  have hsites : s.ageAll.sites = s.sites := sites_ext fun i => by
    have hi : ageQueue (s.site i).queue = (s.site i).queue := by rw [h i]; rfl
    rw [State.ageAll_sites, mapVector_get]
    exact congrArg (fun q => { s.site i with queue := q }) hi
  show { s with sites := s.ageAll.sites } = s
  rw [hsites]

/-- Where every queue is empty, a slot's expiry tests find nothing (R48). -/
theorem State.expireAll_of_empty {s : State} (h : ∀ i : SiteNo, (s.site i).queue = []) : s.expireAll = s := by
  have hnone : s.anyExpired = false := by simp [State.anyExpired, State.expiredAt, h]
  simp [State.expireAll, hnone]

/-- The K values that a valid ALIGN frame may carry (R131). -/
theorem validK_iff (k : Byte) : validK k = true ↔ 4 ≤ k.toNat ∧ k.toNat ≤ 32 := by simp [validK]

/-- The candidate as a slot of the search finds it: its distance one slot on (R134). -/
def LinkRx.held (l : LinkRx) : Option (Byte × Nat) := l.candidate.map fun x => (x.1, x.2 + 1)

/-- A valid ALIGN frame at the candidate's distance with its K confirms it (R134, R135). -/
theorem State.seekSlot_of_confirms {s : State} {k : Byte} (count : Byte) (hk : validK k = true)
    (h : s.link.held = some (k, k.toNat)) : s.seekSlot (.align k count) = s.enterLive k count := by
  rw [LinkRx.held] at h
  simp [State.seekSlot, hk, h]

/-- Any other valid ALIGN frame is the new candidate (R134). -/
theorem State.seekSlot_of_candidate {s : State} {k : Byte} (count : Byte) (hk : validK k = true)
    (h : s.link.held ≠ some (k, k.toNat)) :
    s.seekSlot (.align k count) = { s with link := { s.link with candidate := some (k, 0) } } := by
  rw [LinkRx.held] at h
  simp only [State.seekSlot, hk, if_true, if_neg h]

/-- A slot without a valid ALIGN frame counts on, and a candidate whose K-th slot passes is not dropped (R134). -/
theorem State.seekSlot_of_no_align {s : State} {a : Arrival} (h : ∀ k count : Byte, a = .align k count → validK k = false) :
    s.seekSlot a = { s with link := { s.link with candidate := s.link.held } } := by
  unfold State.seekSlot
  dsimp only
  split
  next k count => rw [h k count rfl]; rfl
  next => rfl

/-- A delivered frame in SEEK with every queue empty is sent on, poisoned if bad, and serves the search; nothing else happens (R132, R134, R143). -/
theorem exec_decodeFrame_in_seek {f : Frame} {s : State} (hf : wholeFrame f = true) (hseek : s.link.state = .seek)
    (hempty : ∀ i : SiteNo, (s.site i).queue = []) :
    exec (decodeFrame f) s =
      .next (State.seekSlot { s with out := { down := some (if frameGood f then f else poisoned f) } } (arrivalOf f)) := by
  obtain ⟨act, -, hexec⟩ := takesFrame_decodeFrame hf
  have hempty' : ∀ i : SiteNo, ((s.begin.forward f (arrivalOf f)).site i).queue = [] := hempty
  have hout : s.begin.outgoing f (arrivalOf f) = if frameGood f then f else poisoned f :=
    State.outgoing_of_not_live (by simp [hseek]) f
  rw [hexec, takeFrame_seek s.begin f _ act hseek, State.ageAll_of_empty hempty', State.expireAll_of_empty hempty',
    State.forward, hout]
  rfl

/-- Settles O10: with the queues empty a slot in SEEK is the search alone, and a valid ALIGN frame confirms the candidate or replaces it. -/
theorem seekSearchesForAlignment : Obligations.SeekSearchesForAlignment := by
  unfold Obligations.SeekSearchesForAlignment
  intro f s hf hseek hempty held sent
  have hslot : exec (decodeFrame f) s = .next (sent.seekSlot (arrivalOf f)) := exec_decodeFrame_in_seek hf hseek hempty
  rw [hslot]
  refine ⟨fun k count ha hmin hmax hheld => ?confirms, fun k count ha hmin hmax hheld => ?candidate, fun hno => ?none⟩
  case confirms =>
    have henter : sent.seekSlot (arrivalOf f) = sent.enterLive k count := by
      rw [ha, State.seekSlot_of_confirms (s := sent) count ((validK_iff k).2 ⟨hmin, hmax⟩) hheld]
    rw [henter]
    exact ⟨fun hloss => congrArg Host.Outcome.next (if_neg (by simp [sent, hloss])),
      fun hloss => congrArg Host.Outcome.next (if_pos hloss)⟩
  case candidate => rw [ha, State.seekSlot_of_candidate (s := sent) count ((validK_iff k).2 ⟨hmin, hmax⟩) hheld]
  case none =>
    have hcount := State.seekSlot_of_no_align (s := sent) fun k count ha =>
      Bool.eq_false_iff.2 fun hk => hno k count ha ((validK_iff k).1 hk)
    rw [hcount]
    rfl

end Sys2Proof.Machine
end

section
/-! PROOFS. The transmit arbiter (R157, R158, R160 to R163): whom a return slot serves, what the service of each side does, and the statement on it. -/

namespace Sys2Proof.Machine

/-- The pass-through side waits where the FIFO holds a frame (R162). -/
theorem State.passWaits_iff (s : State) : s.passWaits = true ↔ s.ret.fifo ≠ [] := by simp [State.passWaits]

/-- The local side waits where a response or a report does (R162). -/
theorem State.localWaits_iff (s : State) : s.localWaits = true ↔ s.ret.responses ≠ [] ∨ s.ret.reports ≠ [] := by
  simp [State.localWaits]

/-- Not held off, the pass-through side waits, and the alternation bit names it where the local side waits too (R158, R162, R163). -/
def State.PassServed (s : State) : Prop :=
  s.ret.hofIn = false ∧ s.ret.fifo ≠ [] ∧ (s.ret.responses ≠ [] ∨ s.ret.reports ≠ [] → s.ret.turn = .passThrough)

/-- Not held off, the local side waits, and the alternation bit names it where the pass-through side waits too (R158, R162, R163). -/
def State.LocalServed (s : State) : Prop :=
  s.ret.hofIn = false ∧ (s.ret.responses ≠ [] ∨ s.ret.reports ≠ []) ∧ (s.ret.fifo ≠ [] → s.ret.turn = .localSide)

/-- Held off, or with neither side waiting, the part has nothing to send (R158, R162). -/
def State.NoneServed (s : State) : Prop :=
  s.ret.hofIn = true ∨ (¬s.ret.fifo ≠ [] ∧ ¬(s.ret.responses ≠ [] ∨ s.ret.reports ≠ []))

/-- The alternation bit settles every case: one side is served or none is (R162, R163). -/
theorem State.arbiter_decides (s : State) : (s.PassServed ∨ s.LocalServed) ∨ s.NoneServed := by
  unfold State.PassServed State.LocalServed State.NoneServed
  cases s.ret.hofIn with
  | true => exact .inr (.inl rfl)
  | false => cases s.ret.turn <;> tauto

/-- No slot serves both sides: where both wait, the alternation bit would name both (R162). -/
theorem State.not_both_served (s : State) : ¬(s.PassServed ∧ s.LocalServed) := by
  rintro ⟨⟨-, hpass, hturnPass⟩, -, hlocal, hturnLocal⟩
  nomatch (hturnPass hlocal).symm.trans (hturnLocal hpass)

/-- A slot with nothing to send sends IDLE and changes nothing else (R158, R162). -/
theorem State.returnSlot_of_noneServed {s : State} (h : s.NoneServed) : s.returnSlot = s.transmit s.idleUp := by
  obtain hhof | ⟨hpass, hlocal⟩ := h
  · simp [State.returnSlot, hhof]
  · rw [← s.passWaits_iff, Bool.not_eq_true] at hpass
    rw [← s.localWaits_iff, Bool.not_eq_true] at hlocal
    simp [State.returnSlot, hpass, hlocal]

/-- The slot that the pass-through side wins is its service (R162). -/
theorem State.returnSlot_of_passServed {s : State} (hline : s.link.crst = false) (h : s.PassServed) :
    s.returnSlot = s.servePassThrough := by
  obtain ⟨hhof, hpass, hturn⟩ := h
  have hpass := s.passWaits_iff.2 hpass
  cases hlocal : s.localWaits with
  | true => simp [State.returnSlot, hline, hhof, hpass, hlocal, hturn (s.localWaits_iff.1 hlocal)]
  | false => simp [State.returnSlot, hline, hhof, hpass, hlocal]

/-- The slot that the local side wins is its service (R162). -/
theorem State.returnSlot_of_localServed {s : State} (hline : s.link.crst = false) (h : s.LocalServed) :
    s.returnSlot = s.serveLocal := by
  obtain ⟨hhof, hlocal, hturn⟩ := h
  have hlocal := s.localWaits_iff.2 hlocal
  cases hpass : s.passWaits with
  | true => simp [State.returnSlot, hline, hhof, hpass, hlocal, hturn (s.passWaits_iff.1 hpass)]
  | false => simp [State.returnSlot, hline, hhof, hpass, hlocal]

/-- HOF_OUT stays asserted after a departure only with more than 2 frames left (R157). -/
theorem hofAfterDeparture_eq (held : Bool) (n : Nat) : hofAfterDeparture held n = (held && decide (2 < n)) := by
  by_cases h : n ≤ 2
  · simp [hofAfterDeparture, h, Nat.not_lt.2 h]
  · simp [hofAfterDeparture, h, Nat.not_le.1 h]

/-- The service of the pass-through side: the FIFO's oldest frame is sent, HOF_OUT follows, and the turn passes (R157, R162, R163). -/
theorem State.servePassThrough_of_fifo {s : State} {f : Frame} {rest : List Frame} (h : s.ret.fifo = f :: rest) :
    s.servePassThrough = { s with
      out := { s.out with up := some f }
      ret := { s.ret with fifo := rest, hofOut := s.ret.hofOut && decide (2 < rest.length), turn := .localSide } } := by
  simp only [State.servePassThrough, h, hofAfterDeparture_eq]
  rfl

/-- The service of the local side where a response waits: the oldest response is sent (R162, R163). -/
theorem State.serveLocal_of_response {s : State} {f : Frame} {rest : List Frame} (h : s.ret.responses = f :: rest) :
    s.serveLocal = { s with
      out := { s.out with up := some f }, ret := { s.ret with responses := rest, turn := .passThrough } } := by
  simp only [State.serveLocal, h]
  rfl

/-- The service of the local side where no response waits: the oldest report is sent and its place filled (R160, R162, R163). -/
theorem State.serveLocal_of_report {s : State} {f : Frame} {rest : List Frame} (hresponses : s.ret.responses = [])
    (hreports : s.ret.reports = f :: rest) :
    s.serveLocal = State.fillPlace { s with
      out := { s.out with up := some f }, ret := { s.ret with reports := rest, turn := .passThrough } } := by
  simp only [State.serveLocal, hresponses, hreports]
  rfl

/-- A freed report place goes to the next summary while one waits (R98, R160). -/
theorem State.fillPlace_of_summary {s : State} (h : s.pass.summary.isSome = true) : s.fillPlace = s.enqueueSummary := if_pos h

/-- A freed report place goes to a pending notice where no summary waits (R160, R168). -/
theorem State.fillPlace_of_no_summary {s : State} (h : s.pass.summary = none) : s.fillPlace = s.admitNotice :=
  if_neg (by simp [State.summariesWaiting, h])

/-- An IDLE frame of the return link has zeros after its source byte (R154). -/
theorem State.idleUp_zeros (s : State) : ∀ b ∈ s.idleUp.body.drop 1, b = 0 := by
  simp [State.idleUp, returnFrame, mkFrame, padTo]

/-- Settles O42: the alternation bit leaves one side to serve or none, and each service is read off the queue it takes from. -/
theorem arbiterServesOneSidePerSlot : Obligations.ArbiterServesOneSidePerSlot := by
  unfold Obligations.ArbiterServesOneSidePerSlot
  intro s hline passWaits localWaits passServed localServed sends
  have hslot : exec .returnFrameSlot s = .next s.begin.returnSlot := rfl
  rw [hslot]
  refine ⟨fun hnone => ?idle, fun f rest hfifo hserved => ?passThrough, fun f rest hresponses hserved => ?response,
    fun f rest hresponses hreports hserved => ?report, s.arbiter_decides, s.not_both_served⟩
  case idle =>
    rw [State.returnSlot_of_noneServed (s := s.begin) hnone]
    exact ⟨s.idleUp, rfl, frameGood_mkFrame _ _, s.idleUp_zeros, rfl⟩
  case passThrough =>
    rw [State.returnSlot_of_passServed (s := s.begin) hline hserved, State.servePassThrough_of_fifo (s := s.begin) hfifo]
    rfl
  case response =>
    rw [State.returnSlot_of_localServed (s := s.begin) hline hserved, State.serveLocal_of_response (s := s.begin) hresponses]
    rfl
  case report =>
    intro freed
    have hfill : s.begin.returnSlot = freed.fillPlace := by
      rw [State.returnSlot_of_localServed (s := s.begin) hline hserved,
        State.serveLocal_of_report (s := s.begin) hresponses hreports]
      rfl
    rw [hfill]
    exact ⟨fun h => congrArg _ (State.fillPlace_of_summary (s := freed) h),
      fun h => congrArg _ (State.fillPlace_of_no_summary (s := freed) h)⟩

end Sys2Proof.Machine
end

section
/-! PROOFS. The check computation bit by bit (R193): the register after each bit of a field, and when a field that follows a byte string brings the register to 0; the byte order of a frame, and the statement on them. -/

namespace Sys2Proof.Machine

/-- The bits of the polynomial x^16 + x^12 + x^5 + 1 below x^16 (R193). -/
theorem getLsbD_polynomial : ∀ j < 16,
    (0x1021 : Half).getLsbD j = (decide (j = 0) || decide (j = 5) || decide (j = 12)) := by decide

/-- Each bit of the register after one data bit: the bit below it, combined with the polynomial's where the bit that leaves differs from the data bit (R193, steps 2 and 3). -/
theorem getLsbD_crcBit (r : Half) (bit : Bool) {j : Nat} (hj : j < 16) :
    (crcBit r bit).getLsbD j = Bool.xor (decide (0 < j) && r.getLsbD (j - 1))
      (Bool.xor (r.getLsbD 15) bit && (decide (j = 0) || decide (j = 5) || decide (j = 12))) := by
  have hshift : (r <<< 1).getLsbD j = (decide (0 < j) && r.getLsbD (j - 1)) := by
    simp only [BitVec.getLsbD_shiftLeft, hj, decide_true, Bool.true_and, Nat.lt_one_iff, Nat.pos_iff_ne_zero, decide_not]
  cases hcombined : Bool.xor (r.getLsbD 15) bit with
  | false => rw [crcBit, hcombined, if_neg Bool.false_ne_true, hshift, Bool.false_and, Bool.xor_false]
  | true => rw [crcBit, hcombined, if_pos rfl, BitVec.getLsbD_xor, hshift, getLsbD_polynomial j hj, Bool.true_and]

/-- A data bit equal to the top bit of z takes the register to z shifted from z alone: bit 0 tells whether the polynomial was combined in, the other bits what was shifted. -/
theorem crcBit_eq_shift_iff {r z : Half} : crcBit r (z.getLsbD 15) = z <<< 1 ↔ r = z := by
  constructor
  · intro h
    have htop : r.getLsbD 15 = z.getLsbD 15 := by
      have hzero := getLsbD_crcBit r (z.getLsbD 15) (j := 0) (by decide)
      rw [h] at hzero
      simpa using hzero
    have hshift : r <<< 1 = z <<< 1 := by rwa [← htop, crcBit, Bool.xor_self, if_neg Bool.false_ne_true] at h
    ext i hi
    obtain rfl | hlow : i = 15 ∨ i + 1 < 16 := by omega
    · simpa using htop
    · simpa [hlow] using congrArg (·.getLsbD (i + 1)) hshift
  · rintro rfl
    simp [crcBit]

/-- The check register after the first n bits of a field, the most significant first (R193). -/
def crcRegister {w : Nat} (r : Half) (x : BitVec w) : Nat → Half
  | 0 => r
  | n + 1 => crcBit (crcRegister r x n) (x.getLsbD (w - 1 - n))

/-- The register after the eight bits of a byte is the byte's step of the check computation. -/
theorem crcRegister_byte (r : Half) (b : Byte) : crcRegister r b 8 = crcByte r b := rfl

/-- The register after the sixteen bits of a 16-bit field is the step of its two bytes, high byte first. -/
theorem crcRegister_half (r x : Half) : crcRegister r x 16 = (be16 x).foldl crcByte r := by
  simp [crcRegister, be16, crcByte]

/-- The register after n bits of x is x shifted by n exactly when it started as x: then every bit that leaves equals the data bit. -/
theorem crcRegister_eq_shift_iff (r x : Half) {n : Nat} (hn : n ≤ 16) : crcRegister r x n = x <<< n ↔ r = x := by
  induction n with
  | zero => simp [crcRegister]
  | succ n ih =>
    have hdata : x.getLsbD (16 - 1 - n) = (x <<< n).getLsbD 15 := by
      simp only [BitVec.getLsbD_shiftLeft, show ¬ 15 < n by omega, Nat.reduceLT, Nat.reduceSub, decide_true,
        decide_false, Bool.not_false, Bool.true_and]
    rw [crcRegister, hdata, BitVec.shiftLeft_add, crcBit_eq_shift_iff]
    exact ih (by omega)

/-- A 16-bit field after a byte string ends the computation in 0 exactly when it is the check of the string (R193). -/
theorem crc16_append_be16_eq_zero_iff (bytes : List Byte) (x : Half) : crc16 (bytes ++ be16 x) = 0 ↔ x = crc16 bytes := by
  have hshift : x <<< 16 = 0 := BitVec.shiftLeft_eq_zero (Nat.le_refl 16)
  calc crc16 (bytes ++ be16 x) = 0
      ↔ crcRegister (crc16 bytes) x 16 = x <<< 16 := by rw [hshift, crcRegister_half, crc16, crc16, List.foldl_append]
    _ ↔ crc16 bytes = x := crcRegister_eq_shift_iff _ _ (Nat.le_refl 16)
    _ ↔ x = crc16 bytes := eq_comm

/-- A frame is good when its check is the check of its bytes 0 to 29 (R131). -/
theorem frameGood_iff (f : Frame) : frameGood f = true ↔ f.check = crc16 (f.kind :: f.body) := beq_iff_eq

/-- The two bytes of a 16-bit field as numbers (R193). -/
theorem be16_toNat (x : Half) : (be16 x).map BitVec.toNat = [x.toNat / 256, x.toNat % 256] := by
  simp [be16, Nat.shiftRight_eq_div_pow]
  omega

/-- The four bytes of a 32-bit field as numbers (R193). -/
theorem be32_toNat (x : Long) : (be32 x).map BitVec.toNat =
    [x.toNat / 16777216, x.toNat / 65536 % 256, x.toNat / 256 % 256, x.toNat % 256] := by
  simp [be32, Nat.shiftRight_eq_div_pow]
  omega

/-- The place of a frame's bytes: kind and body in bytes 0 to 29, the check in bytes 30 and 31, high byte first (R193). -/
theorem frameBytes_layout {f : Frame} (h : f.body.length = 29) :
    (frameBytes f).length = 32 ∧ (frameBytes f).take 30 = f.kind :: f.body ∧
    ((frameBytes f).getD 30 0).toNat = f.check.toNat / 256 ∧ ((frameBytes f).getD 31 0).toNat = f.check.toNat % 256 := by
  have hlength : (f.kind :: f.body).length = 30 := congrArg (· + 1) h
  have hcheck (k : Nat) : (frameBytes f).getD (30 + k) 0 = (be16 f.check).getD k 0 := by
    rw [frameBytes, List.getD_append_right _ _ _ _ (by omega), hlength, Nat.add_sub_cancel_left]
  obtain ⟨hhigh, hlow⟩ := List.cons.inj (be16_toNat f.check)
  refine ⟨by simp [frameBytes, h], List.take_left' hlength, ?_, ?_⟩
  · rw [hcheck 0, ← hhigh]; rfl
  · rw [hcheck 1, ← (List.cons.inj hlow).1]; rfl

/-- Settles O16: each bit of the register is read off one step, and the two check bytes bring the register to 0 exactly when they are the register's own value. -/
theorem checkOfAFrame : Obligations.CheckOfAFrame := by
  unfold Obligations.CheckOfAFrame
  refine ⟨fun f => ⟨frameGood_iff f, ?zero, rfl, frameBytes_layout⟩, be16_toNat, be32_toNat, ?append, ?register, rfl, ?test⟩
  case zero => rw [frameGood_iff, frameBytes, crc16_append_be16_eq_zero_iff]
  case append => exact fun bytes b => List.foldl_append
  case register => exact fun r b => ⟨crcRegister r b, rfl, crcRegister_byte r b, fun n _ j hj => getLsbD_crcBit _ _ hj⟩
  case test => decide +kernel

end Sys2Proof.Machine
end

section
/-! PROOFS. Footprints: what an operation of a step can touch at all, as one relation for calibration runs and one for everything that a site's events and the slot bring about. -/

namespace Sys2Proof.Machine

/-- Nothing differs but the sites, calibration and the lane phases of the TRIM table: what the ends of runs write (R118, R122, R124). -/
structure RunsOnly (s t : State) : Prop where
  same : t = { s with sites := t.sites, cal := t.cal, tables := { s.tables with trim := t.tables.trim } }
  trim : ∀ i, t.trim i = { s.trim i with phase := (t.trim i).phase }

/-- A state differs from itself in nothing. -/
theorem RunsOnly.rfl (s : State) : RunsOnly s s := ⟨Eq.refl s, fun _ => Eq.refl _⟩

/-- Two such changes one after the other are one. -/
theorem RunsOnly.trans {s t u : State} (h : RunsOnly s t) (k : RunsOnly t u) : RunsOnly s u :=
  ⟨by rw [k.same, h.same], fun i => by rw [k.trim i, h.trim i]⟩

/-- What the events of sites and the slots of frames can touch: the sites, the outputs, calibration with the lane phases, and what reports write. -/
structure Local (s t : State) : Prop where
  same : t = { s with
    sites := t.sites, cal := t.cal, tables := { s.tables with trim := t.tables.trim }
    pass := { s.pass with state := t.pass.state, summary := t.pass.summary }
    notice := { s.notice with flags := t.notice.flags, waiting := t.notice.waiting }
    ret := { s.ret with reports := t.ret.reports, drops := t.ret.drops }
    out := t.out, draws := t.draws }
  trim : ∀ i, t.trim i = { s.trim i with phase := (t.trim i).phase }

/-- A state differs from itself in nothing. -/
theorem Local.rfl (s : State) : Local s s := ⟨Eq.refl s, fun _ => Eq.refl _⟩

/-- Two such changes one after the other are one. -/
theorem Local.trans {s t u : State} (h : Local s t) (k : Local t u) : Local s u :=
  ⟨by rw [k.same, h.same], fun i => by rw [k.trim i, h.trim i]⟩

/-- States with the same tables have the same trims. -/
theorem State.trim_congr {s t : State} (h : t.tables = s.tables) (i : SiteNo) :
    t.trim i = { s.trim i with phase := (t.trim i).phase } := by
  simp [State.trim, h]

/-- A change of sites and outputs is local. -/
theorem SitesOnly.toLocal {s t : State} (h : SitesOnly s t) : Local s t :=
  ⟨by unfold SitesOnly at h; rw [h], State.trim_congr h.tables⟩

/-- What reports write is local. -/
theorem ReportsOnly.toLocal {s t : State} (h : ReportsOnly s t) : Local s t :=
  ⟨by unfold ReportsOnly at h; rw [h], State.trim_congr h.tables⟩

/-- What the ends of runs write is local. -/
theorem RunsOnly.toLocal {s t : State} (h : RunsOnly s t) : Local s t := ⟨by rw [h.same], h.trim⟩

section
variable {s t : State} (h : Local s t)
include h

theorem Local.link : t.link = s.link := by rw [h.same]
theorem Local.chainPos : t.chainPos = s.chainPos := by rw [h.same]
theorem Local.cause : t.cause = s.cause := by rw [h.same]
theorem Local.revision : t.revision = s.revision := by rw [h.same]
theorem Local.expander : t.expander = s.expander := by rw [h.same]
theorem Local.pending : t.pending = s.pending := by rw [h.same]
theorem Local.tables : t.tables = { s.tables with trim := t.tables.trim } := by rw [h.same]
theorem Local.number : t.pass.number = s.pass.number := by rw [h.same]
theorem Local.notice : t.notice = { s.notice with flags := t.notice.flags, waiting := t.notice.waiting } := by
  rw [h.same]
theorem Local.ret : t.ret = { s.ret with reports := t.ret.reports, drops := t.ret.drops } := by rw [h.same]

end

section
variable {s t : State} (h : ReportsOnly s t)
include h

theorem ReportsOnly.sites : t.sites = s.sites := by unfold ReportsOnly at h; rw [h]
theorem ReportsOnly.expander : t.expander = s.expander := by unfold ReportsOnly at h; rw [h]
theorem ReportsOnly.cause : t.cause = s.cause := by unfold ReportsOnly at h; rw [h]
theorem ReportsOnly.number : t.pass.number = s.pass.number := by unfold ReportsOnly at h; rw [h]
theorem ReportsOnly.ret : t.ret = { s.ret with reports := t.ret.reports } := by unfold ReportsOnly at h; rw [h]
theorem ReportsOnly.notice : t.notice = { s.notice with flags := t.notice.flags, waiting := t.notice.waiting } := by
  unfold ReportsOnly at h; rw [h]

end

section
variable {s t : State} (h : SitesOnly s t)
include h

theorem SitesOnly.cause : t.cause = s.cause := by unfold SitesOnly at h; rw [h]
theorem SitesOnly.expander : t.expander = s.expander := by unfold SitesOnly at h; rw [h]
theorem SitesOnly.draws : t.draws = s.draws := by unfold SitesOnly at h; rw [h]
theorem SitesOnly.pending : t.pending = s.pending := by unfold SitesOnly at h; rw [h]

end

section
variable {s t : State} (h : RunsOnly s t)
include h

theorem RunsOnly.link : t.link = s.link := by rw [h.same]
theorem RunsOnly.pass : t.pass = s.pass := by rw [h.same]
theorem RunsOnly.ret : t.ret = s.ret := by rw [h.same]
theorem RunsOnly.notice : t.notice = s.notice := by rw [h.same]
theorem RunsOnly.out : t.out = s.out := by rw [h.same]
theorem RunsOnly.draws : t.draws = s.draws := by rw [h.same]
theorem RunsOnly.chainPos : t.chainPos = s.chainPos := by rw [h.same]

end

/-- The attempt to start a run touches calibration only (R113). -/
theorem attemptRun_only (s : State) : RunsOnly s s.attemptRun := by
  rw [attemptRun_spec]; exact ⟨Eq.refl _, fun _ => Eq.refl _⟩

/-- The attempt to start a run leaves the sites as they are. -/
@[simp] theorem State.attemptRun_sites (s : State) : s.attemptRun.sites = s.sites := by rw [attemptRun_spec]

/-- The attempt to start a run leaves the tables as they are. -/
@[simp] theorem State.attemptRun_tables (s : State) : s.attemptRun.tables = s.tables := by rw [attemptRun_spec]

/-- The attempt to start a run leaves every site as it is. -/
@[simp] theorem State.attemptRun_site (s : State) (i : SiteNo) : s.attemptRun.site i = s.site i :=
  State.site_congr s.attemptRun_sites i

/-- The end of a run writes what the ends of runs write (R124). -/
theorem endRun_only (s : State) : RunsOnly s s.endRun := by
  cases h : s.cal.target with
  | none => rw [endRun_of_none s h]; exact .rfl s
  | some i =>
    rw [endRun_of_target s i h]
    exact RunsOnly.trans (t := { s.setSite i { s.site i with lane := .online } with cal := s.cal.released })
      ⟨Eq.refl _, fun _ => Eq.refl _⟩ (attemptRun_only _)

/-- A member of a vector after one member was replaced. -/
theorem vector_get_set {α : Type} {n : Nat} (v : Vector α n) (i j : Fin n) (x : α) :
    (v.set i x).get j = if j = i then x else v.get j := by
  simp only [Vector.get_eq_getElem, Vector.getElem_set, Fin.ext_iff, eq_comm]

/-- A check over the members of a vector, member by member. -/
theorem all_toList_iff {α : Type} {n : Nat} (v : Vector α n) (p : α → Bool) :
    v.toList.all p = true ↔ ∀ i, p (v.get i) = true := by
  rw [List.all_eq_true]
  constructor
  · exact fun h i => h _ (Vector.mem_toList_iff.2 (Vector.getElem_mem i.isLt))
  · intro h x hx
    obtain ⟨i, hi, rfl⟩ := List.mem_iff_getElem.1 hx
    exact h ⟨i, by simpa using hi⟩

/-- A TRIM entry after one lane phase was written (R122). -/
theorem State.trim_setPhase (s : State) (i j : SiteNo) (p : Phase) :
    (s.setPhase i p).trim j = if j = i then { s.trim j with phase := p } else s.trim j := by
  refine (vector_get_set _ _ _ _).trans ?_
  split
  next h => rw [h]
  next => rfl

/-- The hand-back writes what the ends of runs write (R122). -/
theorem completeRun_only (s : State) (i : SiteNo) : RunsOnly s (s.completeRun i) := by
  have hphase : RunsOnly s (s.setPhase i (s.cal.working.getD (s.trim i).phase)) :=
    ⟨Eq.refl _, fun j => by rw [State.trim_setPhase]; split <;> simp⟩
  refine (hphase.trans ?_).trans (attemptRun_only _)
  exact ⟨Eq.refl _, fun _ => Eq.refl _⟩

/-- A departure from ENABLED writes, in calibration, what the ends of runs write (R126, R128). -/
theorem departure_only (s : State) (i : SiteNo) : RunsOnly s (s.departure i) := by
  obtain h | ⟨-, -, h | ⟨-, h⟩⟩ := departure_cases s i <;> rw [h]
  · exact .rfl s
  · exact endRun_only s
  · exact completeRun_only s i

/-- What an event of a site or of a slot is made of: changes of the sites that leave the lanes and bring in no counted entry unless the pass is OPEN, draws, notices, FAIL records offered or missed, the end of a drain, departures handed to calibration. -/
inductive Event : State → State → Prop
  | sites {s t : State} : SitesOnly s t → (∀ i, (t.site i).lane = (s.site i).lane) →
      (s.pass.state ≠ .opened → ∀ i, countedIn (t.site i).queue ≤ countedIn (s.site i).queue) → Event s t
  | drawn (s : State) (n : Nat) : Event s (s.drawnBy n)
  | raise (s : State) (f : NoticeFlag) : Event s (s.raiseFlag f)
  | report (s : State) (f : Frame) : s.reportRoom = true → s.summariesWaiting = false → Event s (s.enqueueReport f)
  | missed (s : State) (n : Half) : Event s { s with ret := { s.ret with drops := n } }
  | settle (s : State) : Event s s.settleDrain
  | depart (s : State) (i : SiteNo) : Event s (s.departure i)
  | trans {s t u : State} : Event s t → Event t u → Event s u

/-- Events are local. -/
theorem Event.toLocal {s t : State} (h : Event s t) : Local s t := by
  induction h with
  | sites h => exact h.toLocal
  | drawn s n => exact ⟨Eq.refl _, fun _ => Eq.refl _⟩
  | raise s f => exact (raiseFlag_only s f).toLocal
  | report s f => exact (enqueueReport_only s f).toLocal
  | missed s n => exact ⟨Eq.refl _, fun _ => Eq.refl _⟩
  | settle s => exact (settleDrain_only s).toLocal
  | depart s i => exact (departure_only s i).toLocal
  | trans _ _ ih ih' => exact ih.trans ih'

/-- Nothing is an event. -/
theorem Event.rfl (s : State) : Event s s := .sites (.rfl s) (fun _ => Eq.refl _) fun _ _ => Nat.le_refl _

/-- A change of one site that leaves its lane and brings in no counted entry is an event. -/
theorem Event.onSite (s : State) (i : SiteNo) {f : Site → Site} (hlane : (f (s.site i)).lane = (s.site i).lane)
    (hcount : countedIn (f (s.site i)).queue ≤ countedIn (s.site i).queue) : Event s (s.onSite i f) := by
  refine .sites (onSite_only s i f) (fun j => ?_) fun _ j => ?_
  · rw [State.site_onSite]
    split
    next h => subst h; exact hlane
    next => exact Eq.refl _
  · rw [State.site_onSite]
    split
    next h => subst h; exact hcount
    next => exact Nat.le_refl _

/-- A grant is an event (R25). -/
theorem grant_event (s : State) (i : SiteNo) : Event s (s.grant i) :=
  .sites (grant_only s i) (fun j => by rw [site_grant]; split <;> rfl) fun _ j => by
    rw [site_grant]; split <;> exact Nat.le_refl _

/-- The report of an empty queue is an event (R34). -/
theorem grantIfEmpty_event (s : State) (i : SiteNo) : Event s (s.grantIfEmpty i) := by
  obtain ⟨h, -⟩ | ⟨h, -⟩ := grantIfEmpty_cases s i <;> rw [h]
  · exact grant_event s i
  · exact .rfl s

/-- A port that parks is an event (R24). -/
theorem parkPort_event (s : State) (i : SiteNo) : Event s (s.parkPort i) :=
  .sites (parkPort_only s i) (fun j => by rw [site_parkPort]; split <;> rfl) fun _ j => by
    rw [site_parkPort]; split <;> exact Nat.le_refl _

/-- A departure from ENABLED is, at the site, an event (R28). -/
theorem vacate_event (s : State) (i : SiteNo) : Event s (s.vacate i) :=
  .sites (vacate_only s i) (fun j => by rw [site_vacate]; split <;> rfl) fun _ j => by
    rw [site_vacate]; split <;> simp [countedIn]

/-- What each site's operation is an event of, the operation done for all sites is. -/
theorem forSites_event {op : SiteNo → State → State} (h : ∀ i t, Event t (op i t)) (s : State) : Event s (forSites op s) :=
  forSites_keeps (P := Event s) (fun i _ ht => ht.trans (h i _)) (.rfl s)

/-- A drop with its departure is an event (R28). -/
theorem leaveDropped_event (s : State) (i : SiteNo) (c : DropCause) : Event s (s.leaveDropped i c) :=
  ((Event.onSite s i (f := fun x => { x with condition := .dropped c }) rfl (Nat.le_refl _)).trans
    (vacate_event _ i)).trans (.depart _ i)

/-- SITE_DROPPED with the end of a drain is an event (R100). -/
theorem raiseDropped_event (s : State) (drains : Bool) : Event s (s.raiseDropped drains) := by
  unfold State.raiseDropped
  split
  · split
    · exact ((Event.drawn s 1).trans (.raise _ _)).trans (.settle _)
    · exact ((Event.drawn s 1).trans (.settle _)).trans (.raise _ _)
  · exact .raise s _

/-- A drop request is an event (R32). -/
theorem dropRequest_event (s : State) (i : SiteNo) : Event s (s.dropRequest i) := by
  obtain ⟨h, -⟩ | ⟨h, -⟩ := dropRequest_cases s i <;> rw [h]
  · exact (leaveDropped_event s i _).trans (.raise _ _)
  · exact .rfl s

/-- A drop is an event (R39). -/
theorem dropSite_event (s : State) (i : SiteNo) (c : DropCause) : Event s (s.dropSite i c) :=
  (leaveDropped_event s i c).trans (raiseDropped_event _ _)

/-- A head status taken is an event (R38). -/
theorem takeHeadStatus_event (s : State) (i : SiteNo) (bits : Byte) : Event s (s.takeHeadStatus i bits) := by
  have htaken := Event.onSite s i (f := fun x => { x with current := bits }) rfl (Nat.le_refl _)
  unfold State.takeHeadStatus
  dsimp only
  split
  · exact htaken
  · exact (htaken.trans (Event.onSite _ i rfl (Nat.le_refl _))).trans (.raise _ _)

/-- A STATUS word is an event (R38, R39). -/
theorem takeStatus_event (s : State) (i : SiteNo) (bits : Byte) : Event s (s.takeStatus i bits) := by
  have hdrop (t : State) : Event t (t.headFaultDrop i) := by
    unfold State.headFaultDrop
    split
    · exact dropSite_event t i _
    · exact (Event.onSite t i (f := fun x => { x with condition := .dropped .headFault }) rfl (Nat.le_refl _)).trans
        (.raise _ _)
    · exact .rfl t
    · exact .rfl t
  unfold State.takeStatus
  dsimp only
  split
  · exact (takeHeadStatus_event s i bits).trans (hdrop _)
  · exact takeHeadStatus_event s i bits

/-- The offer of a FAIL record is an event (R161). -/
theorem offerFail_event (s : State) (f : Frame) : Event s (s.offerFail f) := by
  unfold State.offerFail
  split
  next h =>
    simp only [Bool.and_eq_true, Bool.not_eq_true'] at h
    exact .report s f h.1 h.2
  next => exact (Event.missed s _).trans (.raise _ _)

/-- The analysis of a counted fail is an event (R51, R78). -/
theorem analyse_event (s : State) (i : SiteNo) (e : Entry) : Event s (s.analyse i e) := by
  have htaken := Event.onSite s i (f := fun x => x.takeFail e.region (e.row, e.col)) rfl (Nat.le_refl _)
  unfold State.analyse
  dsimp only
  split
  · exact htaken.trans (dropRequest_event _ i)
  · exact htaken

/-- What a compare writes at the site before any analysis: its counters and, for a fail, the history ring with its write count (R50, R52). -/
def Site.compared (x : Site) (e : Entry) (data : Half) : Site :=
  { x with
    ring := if failBitsOf e data = 0 then x.ring else pushRing x.ring (ringEntryOf e (failBitsOf e data))
    counts :=
      if failBitsOf e data = 0 then x.counts.compared e false
      else { x.counts.compared e true with ringWrites := satAdd (x.counts.compared e true).ringWrites 1 } }

/-- A compare up to its analysis: the site written, and for a fail whose raw log bit is set the FAIL record offered (R50, R52). -/
def State.logged (s : State) (i : SiteNo) (e : Entry) (data : Half) : State :=
  let s₁ := s.onSite i fun x => x.compared e data
  if failBitsOf e data ≠ 0 ∧ bitOf s.ret.rawLog i.val = true then s₁.offerFail (s.failFrame i e data) else s₁

/-- A compare is what it writes and offers, then for a counted fail the analysis (R50 to R52). -/
theorem State.compareEntry_eq (s : State) (i : SiteNo) (e : Entry) (data : Half) :
    s.compareEntry i e data =
      if failBitsOf e data ≠ 0 ∧ e.counted = true then (s.logged i e data).analyse i e else s.logged i e data := by
  unfold State.compareEntry State.logged
  by_cases hbits : failBitsOf e data = 0
  · simp [hbits, Site.compared]
  · simp only [hbits, if_false, ne_eq, not_false_eq_true, true_and, Site.compared, State.onSite, State.setSite_setSite,
      State.site_setSite_self]
    have hne : (failBitsOf e data != 0) = true := by simpa using hbits
    simp only [hne]
    rfl

/-- A compare up to its analysis is an event. -/
theorem logged_event (s : State) (i : SiteNo) (e : Entry) (data : Half) : Event s (s.logged i e data) := by
  have hsite := Event.onSite s i (f := fun x => x.compared e data) rfl (Nat.le_refl _)
  unfold State.logged
  dsimp only
  split
  · exact hsite.trans (offerFail_event _ _)
  · exact hsite

/-- A compare is an event (R50 to R52). -/
theorem compareEntry_event (s : State) (i : SiteNo) (e : Entry) (data : Half) : Event s (s.compareEntry i e data) := by
  rw [State.compareEntry_eq]
  split
  · exact (logged_event s i e data).trans (analyse_event _ i e)
  · exact logged_event s i e data

/-- The reports after a removal are an event (R55). -/
theorem reportRemoval_event (s : State) (i : SiteNo) : Event s (s.reportRemoval i) :=
  (grantIfEmpty_event s i).trans (.settle _)

/-- What follows a READ_DATA word's removals is an event where the act is (R45, R55). -/
theorem afterRemoval_event (s : State) (i : SiteNo) (lost : List Entry) (shows : Bool) {act : State → State}
    (h : ∀ t, Event t (act t)) : Event s (s.afterRemoval i lost shows act) := by
  have hdrawn : Event s s.drawn := .drawn s 1
  obtain ⟨e, -⟩ | ⟨-, e | e⟩ := afterRemoval_cases s i lost shows act <;> rw [e]
  · exact (h s).trans (reportRemoval_event _ i)
  · exact (hdrawn.trans (h _)).trans (reportRemoval_event _ i)
  · exact ((hdrawn.trans (.settle _)).trans (h _)).trans (reportRemoval_event _ i)

/-- A stray is an event (R47). -/
theorem stray_event (s : State) (i : SiteNo) : Event s (s.stray i) := Event.onSite s i rfl (Nat.le_refl _)

/-- A change of the sites that leaves their lanes and counted entries is an event. -/
theorem Event.ofSites {s t : State} (h : SitesOnly s t)
    (hsite : ∀ i, (t.site i).lane = (s.site i).lane ∧ countedIn (t.site i).queue ≤ countedIn (s.site i).queue) : Event s t :=
  .sites h (fun i => (hsite i).1) fun _ i => (hsite i).2

/-- A tail of a queue holds no more counted entries. -/
theorem countedIn_drop_le (q : List Entry) (n : Nat) : countedIn (q.drop n) ≤ countedIn q :=
  (List.drop_sublist n q).countP_le

/-- The expiry test at a site is an event (R48). -/
theorem expireSite_event (s : State) (i : SiteNo) : Event s (s.expireSite i) := by
  unfold State.expireSite
  split
  · exact .rfl s
  · exact (Event.onSite s i (by rw [losing_spec]) (countedIn_drop_le _ _)).trans (grantIfEmpty_event _ i)

/-- The expiry tests of a slot are an event (R48). -/
theorem expireSites_event (s : State) : Event s s.expireSites := forSites_event (fun i t => expireSite_event t i) s

/-- The expiry tests of a slot with the report that may end the drain are an event (R48, R55). -/
theorem expireAll_event (s : State) : Event s s.expireAll := by
  unfold State.expireAll
  split
  · exact (expireSites_event s).trans (.settle _)
  · exact .rfl s

end Sys2Proof.Machine
end

section
/-! PROOFS. Reading one site after the operations of a return word: reports and draws, the end of a run, a drop, a compare, and the removals of a READ_DATA word (Chapters 2 and 3). -/

namespace Sys2Proof.Machine

@[simp] theorem State.raiseFlag_site (s : State) (f : NoticeFlag) (i : SiteNo) : (s.raiseFlag f).site i = s.site i :=
  (raiseFlag_only s f).site i

@[simp] theorem State.settleDrain_site (s : State) (i : SiteNo) : s.settleDrain.site i = s.site i :=
  (settleDrain_only s).site i

@[simp] theorem State.raiseDropped_site (s : State) (b : Bool) (i : SiteNo) : (s.raiseDropped b).site i = s.site i :=
  (raiseDropped_only s b).site i

@[simp] theorem State.drawn_site (s : State) (i : SiteNo) : s.drawn.site i = s.site i := rfl

@[simp] theorem State.begin_site (s : State) (i : SiteNo) : s.begin.site i = s.site i := rfl

/-- The offer of a FAIL record leaves every site as it is (R161). -/
@[simp] theorem State.offerFail_site (s : State) (f : Frame) (i : SiteNo) : (s.offerFail f).site i = s.site i := by
  unfold State.offerFail
  split
  · rfl
  · rw [State.raiseFlag_site]; rfl

/-- Whether the run in progress is on a site's lane, as a check (R126). -/
def State.runsAt (s : State) (i : SiteNo) : Bool :=
  s.cal.target == some i && (s.cal.spare == .training || s.cal.spare == .standingIn)

/-- The check reads as the property. -/
theorem State.runsAt_iff (s : State) (i : SiteNo) :
    s.runsAt i = true ↔ s.cal.target = some i ∧ (s.cal.spare = .training ∨ s.cal.spare = .standingIn) := by
  simp [State.runsAt]

/-- A site after a departure from ENABLED was handed to calibration: the lane of a run in progress goes ONLINE (R126, R128). -/
theorem State.site_departure (s : State) (i j : SiteNo) :
    (s.departure i).site j =
      if j = i ∧ s.runsAt i = true then { s.site j with lane := .online } else s.site j := by
  by_cases ht : s.cal.target = some i
  · have hend : s.endRun.site j = if j = i then { s.site j with lane := .online } else s.site j := by
      rw [endRun_of_target s i ht, State.attemptRun_site]
      refine (s.site_setSite i j _).trans ?_
      split <;> simp_all
    have hcomplete : (s.completeRun i).site j = if j = i then { s.site j with lane := .online } else s.site j := by
      rw [completeRun_spec, State.attemptRun_site]
      refine (s.site_setSite i j _).trans ?_
      split <;> simp_all
    unfold State.departure
    rw [if_pos ht]
    cases hs : s.cal.spare <;> simp [State.runsAt, ht, hs]
    · exact hend
    · split
      · exact hcomplete
      · exact hend
  · rw [departure_of_elsewhere s i ht]
    simp [State.runsAt, ht]

/-- The report of an empty queue, at the site: a PENDING hold is granted and the lane parks (R25, R34). -/
def Site.grantedIfEmpty (x : Site) : Site :=
  if x.hold = .pending ∧ x.queue = [] then { x with hold := .granted, command := .park } else x

/-- A site after the report of an empty queue at site i. -/
theorem State.site_grantIfEmpty_eq (s : State) (i j : SiteNo) :
    (s.grantIfEmpty i).site j = if j = i then (s.site j).grantedIfEmpty else s.site j := by
  rw [site_grantIfEmpty]
  by_cases h : j = i
  · subst h; simp [Site.grantedIfEmpty]
  · simp [h]

/-- A site after the reports that follow a removal at site i (R55). -/
theorem State.site_reportRemoval (s : State) (i j : SiteNo) :
    (s.reportRemoval i).site j = if j = i then (s.site j).grantedIfEmpty else s.site j := by
  rw [State.reportRemoval, State.settleDrain_site, State.site_grantIfEmpty_eq]

/-- What a drop leaves of the site: DROPPED, the queue discarded, a PENDING hold granted, PARK on the lane, the lane of a run ended ONLINE (R28, R32, R39, R126). -/
def Site.droppedBy (x : Site) (c : DropCause) (running : Bool) : Site :=
  { x with
    condition := .dropped c
    queue := []
    hold := if x.hold = .pending then .granted else x.hold
    command := .park
    lane := if running then .online else x.lane }

/-- A site after a drop with its departure at site i (R28). -/
theorem State.site_leaveDropped (s : State) (i j : SiteNo) (c : DropCause) :
    (s.leaveDropped i c).site j = if j = i then (s.site j).droppedBy c (s.runsAt i) else s.site j := by
  have hcal : ((s.setCondition i (.dropped c)).vacate i).cal = s.cal := (vacate_only _ i).cal
  have hruns : ((s.setCondition i (.dropped c)).vacate i).runsAt i = s.runsAt i := by rw [State.runsAt, hcal, State.runsAt]
  rw [State.leaveDropped, State.site_departure, hruns, site_vacate]
  by_cases h : j = i
  · subst h
    by_cases hr : s.runsAt j = true <;> simp [hr, Site.droppedBy, State.setCondition]
  · simp [h, State.setCondition, State.site_onSite]

/-- Whether the analysis of a site's fail asks for a drop that is made: the verdict becomes UNREPAIRABLE at an ENABLED site with the setting on (R32, R78). -/
def Site.dropsOn (x : Site) (e : Entry) : Bool :=
  x.verdict != .unrepairable && (x.takeFail e.region (e.row, e.col)).verdict == .unrepairable &&
    x.condition == .enabled && x.dropOn

/-- The analysis of a counted fail, at the site: the fail taken into its record, and the drop where one is made (R51, R68, R78). -/
def Site.analysed (x : Site) (e : Entry) (running : Bool) : Site :=
  let y := x.takeFail e.region (e.row, e.col)
  if x.dropsOn e then y.droppedBy .unrepairable running else y

/-- The state before the drop that an analysis may ask for: the fail taken. -/
def State.failTaken (s : State) (i : SiteNo) (e : Entry) : State := s.onSite i fun x => x.takeFail e.region (e.row, e.col)

/-- The analysis of a counted fail drops the site with SITE_DROPPED set, or takes the fail and no more (R32, R78). -/
theorem State.analyse_eq (s : State) (i : SiteNo) (e : Entry) :
    s.analyse i e =
      if (s.site i).dropsOn e then ((s.failTaken i e).leaveDropped i .unrepairable).raiseFlag .siteDropped
      else s.failTaken i e := by
  have hsite : (s.failTaken i e).site i = (s.site i).takeFail e.region (e.row, e.col) := State.site_onSite_self s i _
  have h : s.analyse i e =
      if (s.site i).verdict ≠ .unrepairable ∧ ((s.failTaken i e).site i).verdict = .unrepairable then
        (s.failTaken i e).dropRequest i
      else s.failTaken i e := rfl
  have hcond : ((s.site i).takeFail e.region (e.row, e.col)).condition = (s.site i).condition := rfl
  have hset : ((s.site i).takeFail e.region (e.row, e.col)).dropOn = (s.site i).dropOn := rfl
  rw [h, hsite, State.dropRequest, hsite, hcond, hset]
  unfold Site.dropsOn
  split_ifs <;> simp_all

/-- A site after the analysis of a counted fail at site i (R51, R68, R78). -/
theorem State.site_analyse (s : State) (i j : SiteNo) (e : Entry) :
    (s.analyse i e).site j = if j = i then (s.site j).analysed e (s.runsAt i) else s.site j := by
  have hruns : (s.failTaken i e).runsAt i = s.runsAt i := rfl
  rw [State.analyse_eq]
  by_cases h : j = i
  · subst h
    by_cases hd : (s.site j).dropsOn e = true <;>
      simp [hd, State.site_leaveDropped, Site.analysed, State.failTaken, ← hruns]
  · split <;> simp [h, State.site_leaveDropped, State.failTaken, State.site_onSite]

/-- A site after a compare up to its analysis at site i (R50, R52). -/
theorem State.site_logged (s : State) (i j : SiteNo) (e : Entry) (data : Half) :
    (s.logged i e data).site j = if j = i then (s.site j).compared e data else s.site j := by
  unfold State.logged
  dsimp only
  split <;> simp [State.site_onSite]

/-- A whole compare at the site (R50 to R52). -/
def Site.afterCompare (x : Site) (e : Entry) (data : Half) (running : Bool) : Site :=
  if failBitsOf e data ≠ 0 ∧ e.counted = true then (x.compared e data).analysed e running else x.compared e data

/-- A compare up to its analysis leaves calibration alone. -/
theorem State.logged_cal (s : State) (i : SiteNo) (e : Entry) (data : Half) : (s.logged i e data).cal = s.cal := by
  unfold State.logged
  dsimp only
  split
  · unfold State.offerFail
    split
    · rfl
    · exact (raiseFlag_only _ _).cal
  · rfl

/-- A site after a compare at site i (R50 to R52). -/
theorem State.site_compareEntry (s : State) (i j : SiteNo) (e : Entry) (data : Half) :
    (s.compareEntry i e data).site j = if j = i then (s.site j).afterCompare e data (s.runsAt i) else s.site j := by
  have hruns : (s.logged i e data).runsAt i = s.runsAt i := by simp [State.runsAt, State.logged_cal]
  rw [State.compareEntry_eq]
  unfold Site.afterCompare
  split <;> by_cases h : j = i <;> simp [h, State.site_analyse, State.site_logged, hruns]

/-- A site after what follows a READ_DATA word's removals at site i, in every order, where the act changes site i as a function that depends on calibration only (R45, R55, R100). -/
theorem State.site_afterRemoval {s : State} {i : SiteNo} {lost : List Entry} {shows : Bool} {act : State → State}
    {f : Site → Site} (h : ∀ t j, t.cal = s.cal → (act t).site j = if j = i then f (t.site j) else t.site j) (j : SiteNo) :
    (s.afterRemoval i lost shows act).site j = if j = i then (f (s.site j)).grantedIfEmpty else s.site j := by
  have hact (t : State) (ht : t.cal = s.cal) (hsite : ∀ k, t.site k = s.site k) :
      ((act t).reportRemoval i).site j = if j = i then (f (s.site j)).grantedIfEmpty else s.site j := by
    rw [State.site_reportRemoval, h t j ht, hsite]
    split <;> rfl
  obtain ⟨e, -⟩ | ⟨-, e | e⟩ := afterRemoval_cases s i lost shows act <;> rw [e]
  · exact hact s rfl fun _ => rfl
  · exact hact s.drawn rfl fun _ => rfl
  · exact hact s.drawn.settleDrain (settleDrain_only _).cal fun k => State.settleDrain_site _ k

/-- The removals of a READ_DATA word: the older entries lost, the newer left (R45, R46). -/
def State.popped (s : State) (i : SiteNo) (older newer : List Entry) : State :=
  s.onSite i fun x => { x.losing older with queue := newer }

/-- The members of a list that a test holds of, up to the first it does not. -/
theorem takeWhile_of_split {α : Type} {p : α → Bool} {older newer : List α} (ho : ∀ a ∈ older, p a = true)
    (hn : ∀ a, newer.head? = some a → p a = false) : (older ++ newer).takeWhile p = older := by
  rw [List.takeWhile_append_of_pos ho]
  cases newer with
  | nil => simp
  | cons a l => simp [hn a rfl]

/-- A READ_DATA word at an empty queue, or behind its head, is a stray (R45, R47). -/
theorem State.takeReadData_of_stray {s : State} {i : SiteNo} {tag : Half} (data : Half)
    (h : ∀ e : Entry, (s.site i).queue.head? = some e → 32768 ≤ (tag - e.tag).toNat) : s.takeReadData i tag data = s.stray i := by
  unfold State.takeReadData
  cases hq : (s.site i).queue with
  | nil => rfl
  | cons e rest =>
    have hd := h e (by rw [hq]; rfl)
    dsimp only [tagDistance]
    rw [if_neg (by omega), if_neg (by omega)]

/-- A READ_DATA word with the tag of an entry: the older entries are lost, the entry is popped and compared, and the reports follow (R45, R55). -/
theorem State.takeReadData_of_match {s : State} {i : SiteNo} {head e : Entry} {older newer : List Entry} (data : Half)
    (hq : (s.site i).queue = older ++ e :: newer) (hhead : (older ++ [e]).head? = some head)
    (hfar : (e.tag - head.tag).toNat ≤ 32767) (holder : ∀ o ∈ older, (o.tag - head.tag).toNat < (e.tag - head.tag).toNat) :
    s.takeReadData i e.tag data =
      (s.popped i older newer).afterRemoval i older (s.offersUncounted i e data) fun t => t.compareEntry i e data := by
  unfold State.takeReadData
  rw [hq]
  cases older with
  | nil =>
    obtain rfl : e = head := by simpa using hhead
    have hpop : (s.onSite i fun x => { x with queue := newer }) = s.popped i [] newer := by
      simp [State.popped, Site.losing, countedIn]
    have hzero : tagDistance e.tag e.tag = 0 := by simp [tagDistance]
    simp [hzero, hpop, State.afterRemoval, countedIn]
  | cons h rest =>
    obtain rfl : h = head := by simpa using hhead
    have hpos : 0 < (e.tag - h.tag).toNat := Nat.lt_of_le_of_lt (Nat.zero_le _) (holder h (by simp))
    have hold : ((h :: rest) ++ e :: newer).takeWhile (fun o => decide (tagDistance h.tag o.tag < tagDistance h.tag e.tag)) =
        h :: rest :=
      takeWhile_of_split (fun o ho => decide_eq_true (holder o ho)) fun a ha => by
        obtain rfl : e = a := by simpa using ha
        simp
    simp only [List.cons_append] at hold ⊢
    rw [if_neg (by simp only [tagDistance]; omega), if_pos (by simpa only [tagDistance] using hfar), hold]
    simp [State.popped]

/-- A READ_DATA word past entries that has none of its own: the older entries are lost, and the word is a stray (R45). -/
theorem State.takeReadData_of_unmatched {s : State} {i : SiteNo} {tag : Half} {head : Entry} {older newer : List Entry}
    (data : Half) (hq : (s.site i).queue = older ++ newer) (hhead : (older ++ newer).head? = some head)
    (hpos : 1 ≤ (tag - head.tag).toNat) (hfar : (tag - head.tag).toNat ≤ 32767)
    (holder : ∀ o ∈ older, (o.tag - head.tag).toNat < (tag - head.tag).toNat)
    (hnewer : ∀ e, newer.head? = some e → (tag - head.tag).toNat ≤ (e.tag - head.tag).toNat ∧ e.tag ≠ tag) :
    s.takeReadData i tag data = (s.popped i older newer).afterRemoval i older true fun t => t.stray i := by
  have hold : (older ++ newer).takeWhile (fun o => decide (tagDistance head.tag o.tag < tagDistance head.tag tag)) = older :=
    takeWhile_of_split (fun o ho => decide_eq_true (holder o ho)) fun a ha =>
      decide_eq_false (Nat.not_lt.2 (hnewer a ha).1)
  unfold State.takeReadData
  rw [hq]
  cases hl : older ++ newer with
  | nil => rw [hl] at hhead; simp at hhead
  | cons h rest =>
    obtain rfl : h = head := by rw [hl] at hhead; simpa using hhead
    rw [hl] at hold
    dsimp only
    rw [if_neg (by simp only [tagDistance]; omega), if_pos (by simpa only [tagDistance] using hfar), hold, ← hl,
      List.drop_left]
    cases newer with
    | nil => rfl
    | cons e newer =>
      dsimp only
      rw [if_neg (hnewer e rfl).2]
      rfl

/-- A READ_DATA word is a stray, or matches an entry, or passes entries and matches none (R45). -/
theorem State.takeReadData_cases (s : State) (i : SiteNo) (tag data : Half) :
    s.takeReadData i tag data = s.stray i ∨
    (∃ (older newer : List Entry) (e : Entry), (s.site i).queue = older ++ e :: newer ∧
      s.takeReadData i tag data =
        (s.popped i older newer).afterRemoval i older (s.offersUncounted i e data) fun t => t.compareEntry i e data) ∨
    ∃ older newer : List Entry, (s.site i).queue = older ++ newer ∧ older ≠ [] ∧
      s.takeReadData i tag data = (s.popped i older newer).afterRemoval i older true fun t => t.stray i := by
  cases hq : (s.site i).queue with
  | nil => exact .inl (State.takeReadData_of_stray data (by simp [hq]))
  | cons h rest =>
    by_cases hfar : (tag - h.tag).toNat ≤ 32767
    · let older := (h :: rest).takeWhile fun o => decide ((o.tag - h.tag).toNat < (tag - h.tag).toNat)
      let newer := (h :: rest).dropWhile fun o => decide ((o.tag - h.tag).toNat < (tag - h.tag).toNat)
      have hsplit : older ++ newer = h :: rest := List.takeWhile_append_dropWhile
      have holder : ∀ o ∈ older, (o.tag - h.tag).toNat < (tag - h.tag).toNat := fun o ho =>
        by simpa using List.mem_takeWhile_imp ho
      have hstop : ∀ e, newer.head? = some e → (tag - h.tag).toNat ≤ (e.tag - h.tag).toNat := fun e he => by
        have hne := List.head?_dropWhile_not (fun o : Entry => decide ((o.tag - h.tag).toNat < (tag - h.tag).toNat)) (h :: rest)
        have he' : ((h :: rest).dropWhile fun o => decide ((o.tag - h.tag).toNat < (tag - h.tag).toNat)).head? = some e := he
        rw [he'] at hne
        simpa using hne
      by_cases hmatch : ∃ e, newer.head? = some e ∧ e.tag = tag
      · obtain ⟨e, he, rfl⟩ := hmatch
        obtain ⟨newer', hn⟩ : ∃ newer', newer = e :: newer' := by
          cases hn : newer with
          | nil => rw [hn] at he; simp at he
          | cons a l => rw [hn] at he; obtain rfl : a = e := by simpa using he
                        exact ⟨l, rfl⟩
        have hhead : (older ++ [e]).head? = some h := by
          have h1 : (older ++ e :: newer').head? = some h := by rw [← hn, hsplit]; rfl
          cases ho : older with
          | nil => rw [ho] at h1; simpa using h1
          | cons a l => rw [ho] at h1; simpa using h1
        refine .inr (.inl ⟨older, newer', e, by rw [← hn, hsplit], ?_⟩)
        exact State.takeReadData_of_match data (by rw [hq, ← hn, hsplit]) hhead hfar holder
      · have hne : (tag - h.tag).toNat ≠ 0 := by
          intro h0
          have hnone : older = [] := List.eq_nil_iff_forall_not_mem.2 fun o ho => by
            have := holder o ho
            omega
          rw [hnone, List.nil_append] at hsplit
          refine hmatch ⟨h, by rw [hsplit]; rfl, ?_⟩
          have hz : tag - h.tag = 0 := BitVec.eq_of_toNat_eq (by simpa using h0)
          exact (sub_eq_zero.1 hz).symm
        refine .inr (.inr ⟨older, newer, hsplit.symm, ?_, ?_⟩)
        · intro hnone
          rw [hnone, List.nil_append] at hsplit
          have := hstop h (by rw [hsplit]; rfl)
          have hself : (h.tag - h.tag).toNat = 0 := by simp
          omega
        · exact State.takeReadData_of_unmatched data (by rw [hq, hsplit]) (by rw [hsplit]; rfl) (by omega) hfar holder
            fun e he => ⟨hstop e he, fun ht => hmatch ⟨e, he, ht⟩⟩
    · exact .inl (State.takeReadData_of_stray data fun e he => by
        obtain rfl : h = e := by rw [hq] at he; simpa using he
        omega)

/-- The removals of a READ_DATA word are an event where what is left is part of the queue (R45). -/
theorem popped_event {s : State} {i : SiteNo} {older newer : List Entry} (h : newer.Sublist (s.site i).queue) :
    Event s (s.popped i older newer) :=
  Event.onSite s i (by rw [losing_spec]) h.countP_le

/-- A READ_DATA word is an event (R45). -/
theorem takeReadData_event (s : State) (i : SiteNo) (tag data : Half) : Event s (s.takeReadData i tag data) := by
  obtain h | ⟨older, newer, e, hq, h⟩ | ⟨older, newer, hq, -, h⟩ := s.takeReadData_cases i tag data <;> rw [h]
  · exact stray_event s i
  · refine (popped_event ?_).trans (afterRemoval_event _ i _ _ fun t => compareEntry_event t i e data)
    rw [hq]
    exact (List.sublist_cons_self e newer).trans (List.sublist_append_right older _)
  · refine (popped_event ?_).trans (afterRemoval_event _ i _ _ fun t => stray_event t i)
    rw [hq]
    exact List.sublist_append_right older newer

end Sys2Proof.Machine
end

section
/-! PROOFS. Reading one site after the operations of a slot: ageing, expiry and NOPs, the outcome of an expanded frame at a port, and a link loss (sections 1.8, 2.1, 3.3 and 3.5). -/

namespace Sys2Proof.Machine

@[simp] theorem State.ageAll_site (s : State) (i : SiteNo) :
    s.ageAll.site i = { s.site i with queue := ageQueue (s.site i).queue } := State.site_onSites s _ i

/-- The expiry test at a site, as a function of its limit: the run of entries past it is lost, and a queue left empty is reported (R46, R48, R55). -/
def Site.expired (x : Site) (limit : Nat) : Site :=
  let gone := x.queue.takeWhile (·.past limit)
  if gone = [] then x else Site.grantedIfEmpty { x.losing gone with queue := x.queue.drop gone.length }

/-- A site after the expiry test at site i (R48). -/
theorem State.site_expireSite (s : State) (i j : SiteNo) :
    (s.expireSite i).site j = if j = i then (s.site j).expired (s.expiryLimit i) else s.site j := by
  unfold State.expireSite
  split
  next h =>
    have hnone : (s.site i).expired (s.expiryLimit i) = s.site i := if_pos h
    split <;> simp_all
  next h =>
    rw [State.site_grantIfEmpty_eq, State.site_onSite]
    by_cases e : j = i
    · subst e
      have hsome : ¬((s.site j).queue.takeWhile (·.past (s.expiryLimit j)) = []) := h
      simp [Site.expired, State.expiredAt, hsome]
    · simp [e]

/-- Every site after the expiry tests of a slot (R48). -/
theorem State.site_expireSites (s : State) (j : SiteNo) :
    s.expireSites.site j = (s.site j).expired (s.expiryLimit j) := by
  refine forSites_site (f := fun i x => x.expired (s.expiryLimit i)) (keep := fun t => t.tables = s.tables)
    (fun i t h => (expireSite_only t i).tables.trans h) (fun i t k h => ?_) rfl j
  have hlimit : t.expiryLimit i = s.expiryLimit i := by rw [State.expiryLimit, State.trim, h]; rfl
  rw [State.site_expireSite, hlimit]

/-- Every site after the expiry tests of a slot with the report that may end the drain (R48, R55). -/
theorem State.site_expireAll (s : State) (j : SiteNo) : s.expireAll.site j = (s.site j).expired (s.expiryLimit j) := by
  unfold State.expireAll
  split
  · rw [State.settleDrain_site, State.site_expireSites]
  next h =>
    have hnone : s.expiredAt j = [] := by
      have hall := List.any_eq_false.1 (Bool.not_eq_true _ ▸ h) j (mem_allSites j)
      simpa using hall
    exact (if_pos hnone).symm

/-- Every site after the NOPs of a slot: a NOP on every lane whose port is not parked (R23). -/
theorem State.site_slotNops (s : State) (j : SiteNo) :
    s.slotNops.site j = if s.parked j then s.site j else { s.site j with command := .nop } := by
  have h := forSites_site (s := s) (op := fun i t => if t.parked i then t else t.send i .nop)
    (f := fun _ x => if portParked (s.link.state == .live) x then x else { x with command := .nop })
    (keep := fun t => t.link = s.link)
    (fun i t h => by split <;> exact h)
    (fun i t k h => ?_) rfl j
  · exact h
  · have hp : t.parked i = portParked (s.link.state == .live) (t.site i) := by
      rw [State.parked, portParked, h]; rfl
    rw [hp]
    by_cases e : k = i
    · subst e; split <;> simp [State.site_send]
    · split <;> simp [State.site_send, e]

/-- Every site after a slot that is no expanded CYCLE, its ages advanced (R23, R44, R48). -/
theorem State.site_slot (s : State) (j : SiteNo) :
    s.ageAll.plainSlot.site j = slotSite (s.link.state == .live) (s.expiryLimit j) (s.site j) := by
  have hlink : s.ageAll.expireAll.link = s.link := (expireAll_event _).toLocal.link
  have hparked : s.ageAll.expireAll.parked j =
      portParked (s.link.state == .live) (s.ageAll.expireAll.site j) := by
    rw [State.parked, portParked, hlink]; rfl
  rw [State.plainSlot, State.site_slotNops, hparked, State.site_expireAll, State.ageAll_site]
  have hlimit : s.ageAll.expiryLimit j = s.expiryLimit j := rfl
  rw [hlimit]
  generalize s.expiryLimit j = limit
  generalize s.site j = x
  generalize (s.link.state == .live) = live
  have hnop (y : Site) : (if portParked live y then y else { y with command := .nop }) =
      { y with command := if portParked live y then y.command else .nop } := by split <;> rfl
  rw [hnop]
  unfold slotSite Site.expired Site.grantedIfEmpty
  dsimp only
  by_cases hgone : (ageQueue x.queue).takeWhile (·.past limit) = []
  · have hlost : satAdd x.counts.lost 0 = x.counts.lost := by
      have := x.counts.lost.isLt
      simp [satAdd, this]
    rw [if_pos hgone, hgone]
    simp [countedIn, hlost, portParked]
  · rw [if_neg hgone]
    simp only [losing_spec]
    by_cases hhold : x.hold = .pending ∧
        (ageQueue x.queue).drop ((ageQueue x.queue).takeWhile (·.past limit)).length = []
    · have hparks (y : Site) (hy : y.hold = .granted) : portParked live y = true := by simp [portParked, hy]
      rw [if_pos hhold, hparks _ rfl]
      simp [hgone, hhold.1, hhold.2]
    · have hno : ¬((!((ageQueue x.queue).takeWhile (·.past limit)).isEmpty &&
          ((ageQueue x.queue).drop ((ageQueue x.queue).takeWhile (·.past limit)).length).isEmpty &&
          x.hold == .pending) = true) := by
        intro h
        simp only [Bool.and_eq_true, List.isEmpty_iff, beq_iff_eq] at h
        exact hhold ⟨h.2, h.1.2⟩
      rw [if_neg hhold]
      simp only [hno, Bool.false_eq_true, if_false]

/-- The outcome of an expanded frame at a site, as a function of the site (R20, R21). -/
def State.issuedSite (s : State) (c : Cycle) (i : SiteNo) (x : Site) : Site :=
  match x.condition, x.hold with
  | .enabled, .free =>
    match operationOf c.op with
    | .nop => { x with command := .nop }
    | .write => { x with command := s.writeCommand c }
    | .read =>
      if acceptsRead x.queue c.number then
        { x.push (s.entryOf c) (strobeLimited (s.timingSet c) (s.trim i)) with command := s.readCommand i c }
      else { x.skip (s.pass.state == .opened) with command := .nop }
  | .enabled, .pending =>
    match operationOf c.op with
    | .nop => { x with command := .nop }
    | _ => { (if s.pass.state == .opened then x.skip true else x) with command := .nop }
  | _, _ => x

/-- A site replaced and a command put on its lane, in one equation. -/
theorem State.send_onSite (s : State) (i : SiteNo) (f : Site → Site) (k : SiteCommand) :
    (s.onSite i f).send i k = { s.setSite i { f (s.site i) with command := k } with
      out := { s.out with commands := s.out.commands ++ [(i, k)] } } := by
  simp only [State.send, State.onSite, State.site_setSite_self, State.setSite_setSite]
  rfl

/-- A command put on a site's lane, in one equation. -/
theorem State.send_eq (s : State) (i : SiteNo) (k : SiteCommand) :
    s.send i k = { s.setSite i { s.site i with command := k } with
      out := { s.out with commands := s.out.commands ++ [(i, k)] } } := rfl

/-- An expanded frame at a port: where the port is not parked, the site as `State.issuedSite` says and its command on the lane; else nothing (R20, R21, R24). -/
theorem State.issue_eq (s : State) (c : Cycle) (i : SiteNo) :
    s.issue c i =
      if portParked true (s.site i) then s
      else { s.setSite i (s.issuedSite c i (s.site i)) with
        out := { s.out with commands := s.out.commands ++ [(i, (s.issuedSite c i (s.site i)).command)] } } := by
  unfold State.issue State.issuedSite portParked
  by_cases hc : (s.site i).condition = .enabled
  · cases hh : (s.site i).hold with
    | free =>
      cases ho : operationOf c.op with
      | nop => simp [hc, hh, State.send_eq]
      | write => simp [hc, hh, State.send_eq]
      | read => by_cases ha : acceptsRead (s.site i).queue c.number = true <;> simp [hc, ha, State.send_onSite]
    | pending =>
      cases ho : operationOf c.op with
      | nop => simp [hc, hh, State.send_eq]
      | write => by_cases hp : s.pass.state = .opened <;> simp [hc, hh, hp, State.send_eq]
      | read => by_cases hp : s.pass.state = .opened <;> simp [hc, hh, hp, State.send_eq]
    | granted => simp [hc]
  · cases hk : (s.site i).condition <;> simp_all

/-- A parked port keeps its site (R24). -/
theorem State.issuedSite_of_parked (s : State) (c : Cycle) (i : SiteNo) {x : Site} (h : portParked true x = true) :
    s.issuedSite c i x = x := by
  unfold State.issuedSite
  unfold portParked at h
  split <;> simp_all

/-- A site after an expanded frame was issued at site i (R20, R21). -/
theorem State.site_issue (s : State) (c : Cycle) (i j : SiteNo) :
    (s.issue c i).site j = if j = i then s.issuedSite c i (s.site j) else s.site j := by
  rw [State.issue_eq]
  split
  next hp => split <;> simp_all [State.issuedSite_of_parked]
  next hp =>
    refine (s.site_setSite i j _).trans ?_
    split <;> simp_all

/-- The outcome of a frame at a site depends on the pass, the tables and the numbering only. -/
theorem State.issuedSite_congr {s t : State} (hpass : t.pass = s.pass) (htables : t.tables = s.tables)
    (hexpander : t.expander = s.expander) (c : Cycle) (i : SiteNo) (x : Site) : t.issuedSite c i x = s.issuedSite c i x := by
  have hphys (address : Long) (first n : Nat) : t.physicalBits address first n = s.physicalBits address first n := by
    induction n with
    | zero => rfl
    | succ n ih => simp only [State.physicalBits, ih, htables]
  have hrow (a : Long) : t.rowOf a = s.rowOf a := by rw [State.rowOf, hphys]; rfl
  have hcol (a : Long) : t.colOf a = s.colOf a := by rw [State.colOf, hphys]; rfl
  have hregion (a : Long) : t.regionOf a = s.regionOf a := by rw [State.regionOf, hphys]; rfl
  have hdata (a : Long) (d : Half) : t.physicalData a d = s.physicalData a d := by
    simp only [State.physicalData, State.topologyIndex, hrow, hcol, htables]
  simp only [State.issuedSite, State.entryOf, State.readCommand, State.writeCommand, State.timingSet, State.trim,
    State.extended, hrow, hcol, hregion, hdata, hpass, htables, hexpander]

/-- Every site after an expanded frame was issued at the ports named (R20). -/
theorem State.site_issueWhere (s : State) (c : Cycle) (p : SiteNo → Bool) (j : SiteNo) :
    (s.issueWhere c p).site j = if p j then s.issuedSite c j (s.site j) else s.site j := by
  refine forSites_site (s := s) (op := fun i t => if p i then t.issue c i else t)
    (f := fun i x => if p i then s.issuedSite c i x else x)
    (keep := fun t => t.pass = s.pass ∧ t.tables = s.tables ∧ t.expander = s.expander)
    (fun i t h => ?_) (fun i t k h => ?_) ⟨rfl, rfl, rfl⟩ j
  · split
    · have hi := issue_only t c i
      exact ⟨hi.pass.trans h.1, hi.tables.trans h.2.1, hi.expander.trans h.2.2⟩
    · exact h
  · obtain ⟨hpass, htables, hexpander⟩ := h
    split
    next hp => rw [State.site_issue, State.issuedSite_congr hpass htables hexpander]
    next hp => split <;> rfl

/-- Every site after a link loss (R24, R34, R53, R138). -/
theorem State.site_linkLoss (s : State) (j : SiteNo) :
    s.linkLoss.site j = lostSite (s.pass.state == .opened) (s.site j) := by
  let lost : State := { s with
    link := { s.link with state := .seek, candidate := none, position := none, missRun := 0, errorRun := 0 }
    notice := { s.notice with lossOutstanding := true } }
  let flushed : State := lost.onSites fun x => x.flushed (s.pass.state == .opened)
  let granted : State := forSites (fun i t => if (s.site i).queue = [] then t else t.grantIfEmpty i) flushed
  have hgranted : granted.site j =
      if (s.site j).queue = [] then flushed.site j else (flushed.site j).grantedIfEmpty := by
    refine forSites_site (s := flushed) (op := fun i t => if (s.site i).queue = [] then t else t.grantIfEmpty i)
      (f := fun i x => if (s.site i).queue = [] then x else x.grantedIfEmpty) (keep := fun _ => True)
      (fun _ _ _ => trivial) (fun i t k _ => ?_) trivial j
    split
    · split <;> rfl
    · exact State.site_grantIfEmpty_eq t i k
  have hpark (t : State) : (forSites (fun i t => t.parkPort i) t).site j = { t.site j with command := .park } :=
    forSites_site (f := fun _ x => { x with command := SiteCommand.park }) (keep := fun _ => True) (fun _ _ _ => trivial)
      (fun i t k _ => site_parkPort t i k) trivial j
  have hflushed : flushed.site j = (s.site j).flushed (s.pass.state == .opened) := State.site_onSites lost _ j
  have hall : lost.flushAll.site j = granted.site j := by
    unfold State.flushAll
    dsimp only
    split
    · rw [State.settleDrain_site]; rfl
    · rfl
  have hloss : s.linkLoss.site j = { lost.flushAll.site j with command := .park } := hpark _
  rw [hloss, hall, hgranted, hflushed]
  unfold Site.flushed lostSite Site.grantedIfEmpty
  rw [losing_spec]
  generalize (s.pass.state == .opened) = opened
  generalize s.site j = x
  by_cases hq : x.queue = []
  · simp only [hq, if_true, not_true, and_false, ne_eq, if_false]
    cases opened <;> by_cases hc : x.condition = .enabled <;> simp [hc, countedIn]
  · by_cases hh : x.hold = .pending
    · cases opened <;> by_cases hc : x.condition = .enabled <;> simp [hc, hq, hh]
    · cases opened <;> by_cases hc : x.condition = .enabled <;> simp [hc, hq, hh]

end Sys2Proof.Machine
end

section
/-! PROOFS. Reading one site after a STATUS word and after SET SITES, and the one departure of SET SITES that reaches a run (sections 2.3 and 2.5, R126, R178). -/

namespace Sys2Proof.Machine

/-- The walk names an eligible position (R114). -/
theorem State.walk_eligible {s : State} {p : Nat} (h : s.walk = some p) : s.eligible (s.orderAt p) = true := by
  unfold State.walk at h
  simpa using List.find?_some h

/-- An eligible site is ENABLED with its lane ONLINE (R114). -/
theorem State.eligible_iff (s : State) (i : SiteNo) :
    s.eligible i = true ↔ (s.site i).condition = .enabled ∧ (s.site i).lane = .online := by
  simp [State.eligible]

/-- The calibration items that a start leaves: those before, with the due flag cleared, or a training begun on an eligible site (R113, R114, R117). -/
theorem attemptRun_cal_cases (s : State) :
    (s.attemptRun = s ∧ ¬(s.cal.running = true ∧ s.cal.due = true ∧ s.cal.spare = .idle)) ∨
    ((s.cal.running = true ∧ s.cal.due = true ∧ s.cal.spare = .idle) ∧
      (s.attemptRun = { s with cal := { s.cal with due := false } } ∨
       ∃ (k : SiteNo) (index : Fin 16), s.eligible k = true ∧
        s.attemptRun = { s with cal := { s.cal.released with
          due := false, index := index, spare := .training, target := some k } })) := by
  obtain h | ⟨h, ⟨-, e⟩ | ⟨p, hp, e⟩⟩ := attemptRun_cases s
  · exact .inl h
  · exact .inr ⟨h, .inl e⟩
  · exact .inr ⟨h, .inr ⟨_, _, s.walk_eligible hp, e⟩⟩

/-- A run in progress after a start attempted with the spare released is on an ENABLED site (R114). -/
theorem attemptRun_runsAt {s : State} (hspare : s.cal.spare = .idle) {k : SiteNo} (h : s.attemptRun.runsAt k = true) :
    (s.site k).condition = .enabled := by
  obtain ⟨e, -⟩ | ⟨-, e | ⟨j, index, hj, e⟩⟩ := attemptRun_cal_cases s <;> rw [e] at h
  · simp [State.runsAt, hspare] at h
  · simp [State.runsAt, hspare] at h
  · obtain rfl : j = k := by simpa [State.runsAt] using h
    exact ((s.eligible_iff j).1 hj).1

/-- A departure of a site without a run does nothing to calibration (R126). -/
theorem departure_of_not_running {s : State} {i : SiteNo} (h : s.runsAt i = false) : s.departure i = s := by
  obtain e | ⟨ht, hs, -⟩ := departure_cases s i
  · exact e
  · rw [(s.runsAt_iff i).2 ⟨ht, hs⟩] at h
    exact absurd h (by decide)

/-- A departure from a run ends it, by the hand-back that waits or else at the old phase (R126, R128). -/
theorem departure_of_running {s : State} {i : SiteNo} (h : s.runsAt i = true) :
    s.departure i = if s.cal.spare = .standingIn ∧ s.cal.boundary = some .handBack then s.completeRun i else s.endRun := by
  obtain ⟨ht, hs | hs⟩ := (s.runsAt_iff i).1 h <;> simp [State.departure, ht, hs]

/-- A run in progress after a departure from a run is on an ENABLED site (R114, R126). -/
theorem departure_runsAt {s : State} {i k : SiteNo} (h : s.runsAt i = true) (hk : (s.departure i).runsAt k = true) :
    (s.site k).condition = .enabled := by
  have hsite {x : Site} {t : State} (hc : (t.site k).condition = .enabled) (e : t.sites = (s.setSite i x).sites)
      (hx : x.condition = (s.site i).condition) : (s.site k).condition = .enabled := by
    have he : t.site k = if k = i then x else s.site k := (State.site_congr e k).trans (s.site_setSite i k x)
    rw [he] at hc
    split at hc
    next hki => subst hki; rwa [← hx]
    next => exact hc
  rw [departure_of_running h] at hk
  obtain ⟨ht, -⟩ := (s.runsAt_iff i).1 h
  split at hk
  · rw [completeRun_spec] at hk
    have hc := attemptRun_runsAt rfl hk
    exact hsite (x := { s.site i with lane := .online }) hc rfl rfl
  · rw [endRun_of_target s i ht] at hk
    have hc := attemptRun_runsAt rfl hk
    exact hsite (x := { s.site i with lane := .online }) hc rfl rfl

/-- An operation that leaves a state as it is at every member of a list leaves it over the list. -/
theorem foldl_fixed {op : SiteNo → State → State} {s : State} {l : List SiteNo} (h : ∀ k ∈ l, op k s = s) :
    l.foldl (fun t k => op k t) s = s := by
  induction l with
  | nil => rfl
  | cons k l ih =>
    rw [List.foldl_cons, h k (by simp)]
    exact ih fun j hj => h j (by simp [hj])

/-- The departures of SET SITES where no site that leaves has a run: nothing (R126). -/
theorem departures_of_none {s : State} {left : SiteNo → Bool} (h : ∀ i, left i = true → s.runsAt i = false) :
    forSites (fun i t => if left i then t.departure i else t) s = s :=
  foldl_fixed (op := fun i t => if left i then t.departure i else t) fun k _ => by
    split
    next hk => exact departure_of_not_running (h k hk)
    next => rfl

/-- The departures of SET SITES where a site that leaves has the run: that site's alone, for the run it may start is on a site that is ENABLED, which none that leaves is (R114, R126). -/
theorem departures_of_run {s : State} {left : SiteNo → Bool} {i : SiteNo} (hi : left i = true) (hrun : s.runsAt i = true)
    (hleft : ∀ k, left k = true → (s.site k).condition ≠ .enabled) :
    forSites (fun i t => if left i then t.departure i else t) s = s.departure i := by
  obtain ⟨before, after, hsplit⟩ := List.append_of_mem (mem_allSites i)
  have hnotin : i ∉ before := by
    have hn := allSites_nodup
    rw [hsplit, List.nodup_append] at hn
    exact fun hb => hn.2.2 i hb i (by simp) rfl
  have hbefore : before.foldl (fun t k => if left k then t.departure k else t) s = s :=
    foldl_fixed (op := fun k t => if left k then t.departure k else t) fun k hk => by
      split
      next =>
        refine departure_of_not_running (Bool.eq_false_iff.2 fun hr => hnotin ?_)
        have hki : k = i := Option.some.inj (((s.runsAt_iff k).1 hr).1.symm.trans ((s.runsAt_iff i).1 hrun).1)
        exact hki ▸ hk
      next => rfl
  have hafter : after.foldl (fun t k => if left k then t.departure k else t) (s.departure i) = s.departure i :=
    foldl_fixed (op := fun k t => if left k then t.departure k else t) fun k _ => by
      split
      next hk => exact departure_of_not_running (Bool.eq_false_iff.2 fun hr => hleft k hk (departure_runsAt hrun hr))
      next => rfl
  rw [forSites, hsplit, List.foldl_append, hbefore, List.foldl_cons, if_pos hi, hafter]

/-- A site after the departures of SET SITES: the lane of the run that a departure ends goes ONLINE (R126). -/
theorem State.site_departures {s : State} {left : SiteNo → Bool}
    (hleft : ∀ k, left k = true → (s.site k).condition ≠ .enabled) (j : SiteNo) :
    (forSites (fun i t => if left i then t.departure i else t) s).site j =
      if left j = true ∧ s.runsAt j = true then { s.site j with lane := .online } else s.site j := by
  by_cases h : ∃ i, left i = true ∧ s.runsAt i = true
  · obtain ⟨i, hi, hrun⟩ := h
    rw [departures_of_run hi hrun hleft, State.site_departure]
    by_cases hj : j = i
    · subst hj; simp [hi, hrun]
    · have hne : ¬(left j = true ∧ s.runsAt j = true) := fun hr =>
        hj (Option.some.inj (((s.runsAt_iff j).1 hr.2).1.symm.trans ((s.runsAt_iff i).1 hrun).1))
      rw [if_neg hne, if_neg fun hr => hj hr.1]
  · have hnone : ∀ i, left i = true → s.runsAt i = false := fun i hi => Bool.eq_false_iff.2 fun hr => h ⟨i, hi, hr⟩
    rw [departures_of_none hnone, if_neg fun hr => h ⟨j, hr⟩]

/-- The departures of SET SITES write what the ends of runs write (R126). -/
theorem departures_only (left : SiteNo → Bool) (s : State) :
    RunsOnly s (forSites (fun i t => if left i then t.departure i else t) s) :=
  forSites_keeps (P := RunsOnly s) (fun i t ht => by
    split
    · exact ht.trans (departure_only t i)
    · exact ht) (.rfl s)

/-- Whether SET SITES takes a site from ENABLED (R29, R30). -/
def State.leaves (s : State) (enable : Half) (i : SiteNo) : Bool := (s.site i).condition == .enabled && !bitOf enable i.val

/-- Whether SET SITES brings a site up faulting (R30). -/
def State.faults (s : State) (enable : Half) (i : SiteNo) : Bool :=
  (s.site i).condition == .disabled && bitOf enable i.val && headFault (s.site i).current

/-- SET SITES up to the departures: every drop setting and condition, then the discards and grants (R29 to R31). -/
def State.vacated (s : State) (enable drop : Half) : State :=
  forSites (fun i t => if s.leaves enable i then t.vacate i else t)
    (forSites (fun i t => t.onSite i fun x => x.setSite s.inPass (bitOf enable i.val) (bitOf drop i.val)) s)

/-- SET SITES up to its reports: the departures after the discards and grants (R126). -/
def State.departed (s : State) (enable drop : Half) : State :=
  forSites (fun i t => if s.leaves enable i then t.departure i else t) (s.vacated enable drop)

/-- Whether SET SITES discards a counted entry (R54, R96). -/
def State.discards (s : State) (enable : Half) : Bool :=
  allSites.any fun i => s.leaves enable i && countedIn (s.site i).queue != 0

/-- SET SITES: conditions, discards, departures, then its reports (R178). -/
theorem State.applySites_eq (s : State) (enable drop : Half) :
    s.applySites enable drop =
      if allSites.any (s.faults enable) then (s.departed enable drop).raiseDropped (s.discards enable)
      else if s.discards enable then (s.departed enable drop).settleDrain
      else s.departed enable drop := rfl

/-- A site after the conditions, discards and grants of SET SITES (R28 to R31). -/
theorem State.site_vacated (s : State) (enable drop : Half) (j : SiteNo) :
    (s.vacated enable drop).site j =
      let y := (s.site j).setSite s.inPass (bitOf enable j.val) (bitOf drop j.val)
      if s.leaves enable j then
        { y with queue := [], command := .park, hold := if y.hold = .pending then .granted else y.hold }
      else y := by
  have hset (j : SiteNo) : (forSites (fun i t => t.onSite i fun x => x.setSite s.inPass (bitOf enable i.val) (bitOf drop i.val))
      s).site j = (s.site j).setSite s.inPass (bitOf enable j.val) (bitOf drop j.val) :=
    forSites_site (f := fun i x => x.setSite s.inPass (bitOf enable i.val) (bitOf drop i.val)) (keep := fun _ => True)
      (fun _ _ _ => trivial) (fun i t k _ => State.site_onSite t i k _) trivial j
  have hvacate := forSites_site
    (s := forSites (fun i t => t.onSite i fun x => x.setSite s.inPass (bitOf enable i.val) (bitOf drop i.val)) s)
    (op := fun i t => if s.leaves enable i then t.vacate i else t)
    (f := fun i y => if s.leaves enable i then
        { y with queue := [], command := .park, hold := if y.hold = .pending then .granted else y.hold }
      else y)
    (keep := fun _ => True) (fun _ _ _ => trivial) (fun i t k _ => ?_) trivial j
  · rw [hset] at hvacate
    exact hvacate
  · split
    · rw [site_vacate]
    · split <;> rfl

/-- SET SITES takes a site that leaves from ENABLED (R30). -/
theorem State.vacated_condition {s : State} {enable : Half} (drop : Half) {j : SiteNo} (h : s.leaves enable j = true) :
    ((s.vacated enable drop).site j).condition = .disabled := by
  have hl := h
  simp only [State.leaves, Bool.and_eq_true, beq_iff_eq, Bool.not_eq_true'] at hl
  rw [State.site_vacated]
  dsimp only
  rw [if_pos h]
  simp only [Site.setSite, hl.1, hl.2]
  split <;> rfl

/-- The discards and grants of SET SITES touch the sites and the outputs only. -/
theorem vacated_only (s : State) (enable drop : Half) : SitesOnly s (s.vacated enable drop) :=
  (forSites_only (fun i t => onSite_only t i _) s).trans
    (forSites_only (fun i t => by
      show SitesOnly t (if s.leaves enable i then t.vacate i else t)
      split
      · exact vacate_only t i
      · exact .rfl t) _)

/-- The conditions, discards and grants of SET SITES are an event (R28 to R31). -/
theorem vacated_event (s : State) (enable drop : Half) : Event s (s.vacated enable drop) := by
  have hkeep (x : Site) (inPass on d : Bool) : (x.setSite inPass on d).lane = x.lane ∧ (x.setSite inPass on d).queue = x.queue := by
    unfold Site.setSite
    dsimp only
    split
    · split <;> exact ⟨rfl, rfl⟩
    · exact ⟨rfl, rfl⟩
    · exact ⟨rfl, rfl⟩
    · split <;> exact ⟨rfl, rfl⟩
  refine (forSites_event (fun i t => Event.onSite t i (hkeep _ _ _ _).1 (by rw [(hkeep _ _ _ _).2])) s).trans
    (forSites_event (fun i t => ?_) _)
  split
  · exact vacate_event t i
  · exact .rfl t

/-- SET SITES before its reports is an event. -/
theorem departed_event (s : State) (enable drop : Half) : Event s (s.departed enable drop) :=
  (vacated_event s enable drop).trans (forSites_event (fun i t => by
    split
    · exact .depart t i
    · exact .rfl t) _)

/-- SET SITES is an event. -/
theorem applySites_event (s : State) (enable drop : Half) : Event s (s.applySites enable drop) := by
  have h := departed_event s enable drop
  rw [State.applySites_eq]
  split
  · exact h.trans (raiseDropped_event _ _)
  · split
    · exact h.trans (.settle _)
    · exact h

/-- A site after SET SITES (R28 to R31, R126). -/
theorem State.site_departed (s : State) (enable drop : Half) (j : SiteNo) :
    (s.departed enable drop).site j =
      let y := (s.site j).setSite s.inPass (bitOf enable j.val) (bitOf drop j.val)
      if s.leaves enable j then
        { y with
          queue := [], command := .park, hold := if y.hold = .pending then .granted else y.hold
          lane := if s.runsAt j then .online else y.lane }
      else y := by
  have hcal : (s.vacated enable drop).cal = s.cal := (vacated_only s enable drop).cal
  have hruns : (s.vacated enable drop).runsAt j = s.runsAt j := by rw [State.runsAt, hcal, State.runsAt]
  rw [State.departed, State.site_departures (fun k hk => by rw [State.vacated_condition drop hk]; decide), hruns,
    State.site_vacated]
  dsimp only
  by_cases hl : s.leaves enable j = true <;> by_cases hr : s.runsAt j = true <;> simp [hl, hr]

/-- The reports of SET SITES leave every site as it is. -/
theorem State.site_applySites (s : State) (enable drop : Half) (j : SiteNo) :
    (s.applySites enable drop).site j = (s.departed enable drop).site j := by
  rw [State.applySites_eq]
  split
  · simp
  · split <;> simp

/-- The head status taken at a site (R38). -/
def Site.headTaken (x : Site) (bits : Byte) : Site :=
  { x with current := bits, changed := x.changed || bits != x.snapshot }

/-- What HEAD_FAULT does to a site (R39). -/
def Site.headFaulted (x : Site) (running : Bool) : Site :=
  match x.condition with
  | .enabled => x.droppedBy .headFault running
  | .dropped .unrepairable => { x with condition := .dropped .headFault }
  | _ => x

/-- A site after its head status was taken (R38). -/
theorem State.site_takeHeadStatus (s : State) (i j : SiteNo) (bits : Byte) :
    (s.takeHeadStatus i bits).site j = if j = i then (s.site j).headTaken bits else s.site j := by
  unfold State.takeHeadStatus
  dsimp only
  by_cases hj : j = i
  · subst hj
    by_cases hb : bits = (s.site j).snapshot <;> simp [hb, Site.headTaken]
  · split <;> simp [State.site_onSite, hj]

/-- A site after HEAD_FAULT acted on a site's condition (R39). -/
theorem State.site_headFaultDrop (s : State) (i j : SiteNo) :
    (s.headFaultDrop i).site j = if j = i then (s.site j).headFaulted (s.runsAt i) else s.site j := by
  unfold State.headFaultDrop
  by_cases hj : j = i
  · subst hj
    rw [if_pos rfl, Site.headFaulted]
    split <;> simp_all [State.dropSite, State.site_leaveDropped, State.setCondition]
  · rw [if_neg hj]
    split <;> simp [State.dropSite, State.site_leaveDropped, State.setCondition, State.site_onSite, hj]

/-- A site after a STATUS word at site i (R38, R39). -/
theorem State.site_takeStatus (s : State) (i j : SiteNo) (bits : Byte) :
    (s.takeStatus i bits).site j =
      if j = i then
        if headFault bits then ((s.site j).headTaken bits).headFaulted (s.runsAt i) else (s.site j).headTaken bits
      else s.site j := by
  have hcal : (s.takeHeadStatus i bits).cal = s.cal := by
    unfold State.takeHeadStatus
    dsimp only
    split
    · rfl
    · exact (raiseFlag_only _ _).cal
  have hruns : (s.takeHeadStatus i bits).runsAt i = s.runsAt i := by rw [State.runsAt, hcal, State.runsAt]
  unfold State.takeStatus
  dsimp only
  by_cases hj : j = i <;> by_cases hf : headFault bits = true <;>
    simp [hf, hj, State.site_headFaultDrop, State.site_takeHeadStatus, hruns]

end Sys2Proof.Machine
end

section
/-! PROOFS. What becomes of a site: the moves that every operation of a step makes at a site, and what each rule about sites keeps through them (chapters 2 to 4). -/

namespace Sys2Proof.Machine

/-- How a site moves: what its queue, its hold, its condition, its ring and its records go through, each move with what the part asks for before it. `loads` allows the loading and the resetting of records, `reads` the taking of a counted fail, `live` the push of an entry; `region` is the table that records are loaded from. -/
inductive SiteMove (loads reads live : Prop) (region : Vector Budget 8) : Site → Site → Prop
  | calm {x y : Site} : y.condition = x.condition → y.hold = x.hold → y.queue = x.queue → y.ring = x.ring →
      y.records = x.records → SiteMove loads reads live region x y
  | age (x : Site) : SiteMove loads reads live region x { x with queue := ageQueue x.queue }
  | remove (x : Site) (n : Nat) :
      SiteMove loads reads live region x (Site.grantedIfEmpty { x with queue := x.queue.drop n })
  | push (x : Site) (e : Entry) : live → x.condition = .enabled → x.hold = .free → acceptsRead x.queue e.tag = true →
      e.age = 0 → SiteMove loads reads live region x { x with queue := x.queue ++ [e] }
  | ring (x : Site) (r : RingEntry) : SiteMove loads reads live region x { x with ring := pushRing x.ring r }
  | fail (x : Site) (g : RegionNo) (p : Half × Col) : reads → SiteMove loads reads live region x (x.takeFail g p)
  | leave (x : Site) (c : Condition) : c ≠ .enabled → SiteMove loads reads live region x
      { x with condition := c, queue := [], hold := if x.hold = .pending then .granted else x.hold }
  | recondition (x : Site) (c : Condition) : x.condition ≠ .enabled →
      SiteMove loads reads live region x { x with condition := c }
  | request (x : Site) : x.condition = .enabled → x.queue ≠ [] →
      SiteMove loads reads live region x { x with hold := .pending }
  | grant (x : Site) : x.condition ≠ .enabled ∨ x.queue = [] →
      SiteMove loads reads live region x { x with hold := .granted }
  | release (x : Site) : SiteMove loads reads live region x { x with hold := .free }
  | load (x : Site) : loads → SiteMove loads reads live region x
      { x with ring := [], records := mapVector Record.load region }
  | reset (x y : Site) : loads → y.hold = .free → y.queue = [] → y.ring = [] → (∀ g, y.records.get g = {}) →
      SiteMove loads reads live region x y
  | trans {x y z : Site} : SiteMove loads reads live region x y → SiteMove loads reads live region y z →
      SiteMove loads reads live region x z

section
variable {loads reads live : Prop} {region : Vector Budget 8} {x y : Site}

/-- A site moves to itself. -/
theorem SiteMove.refl (x : Site) : SiteMove loads reads live region x x := .calm rfl rfl rfl rfl rfl

/-- The report of an empty queue keeps the queue, the ring and the records. -/
theorem Site.grantedIfEmpty_keeps (x : Site) :
    x.grantedIfEmpty.queue = x.queue ∧ x.grantedIfEmpty.ring = x.ring ∧ x.grantedIfEmpty.records = x.records ∧
      x.grantedIfEmpty.condition = x.condition := by
  unfold Site.grantedIfEmpty
  split <;> exact ⟨rfl, rfl, rfl, rfl⟩

/-- A ring holds at most eight entries after a write, as before it (R52). -/
theorem pushRing_length {ring : List RingEntry} (r : RingEntry) (h : ring.length ≤ 8) : (pushRing ring r).length ≤ 8 := by
  unfold pushRing
  split
  · simp; omega
  · simp; omega

/-- The capacities of a site's queue and ring (R43, R52). -/
def Site.Fits (x : Site) : Prop := x.queue.length ≤ 64 ∧ x.ring.length ≤ 8

/-- A site's queue and ring stay within their capacities (R43, R52). -/
theorem SiteMove.fits (h : SiteMove loads reads live region x y) (hx : x.Fits) : y.Fits := by
  induction h with
  | calm _ _ hq hr => exact ⟨hq ▸ hx.1, hr ▸ hx.2⟩
  | age x => exact ⟨by simpa using hx.1, hx.2⟩
  | remove x n =>
    obtain ⟨hq, hr, -⟩ := Site.grantedIfEmpty_keeps { x with queue := x.queue.drop n }
    refine ⟨?_, by rw [hr]; exact hx.2⟩
    rw [hq]
    exact (List.drop_sublist n x.queue).length_le.trans hx.1
  | push x e _ _ _ hacc =>
    have hlen : x.queue.length < 64 := by
      unfold acceptsRead at hacc
      exact of_decide_eq_true (Bool.and_eq_true_iff.1 hacc).1
    exact ⟨by simpa using hlen, hx.2⟩
  | ring x r => exact ⟨hx.1, pushRing_length r hx.2⟩
  | leave x => exact ⟨Nat.zero_le _, hx.2⟩
  | load x => exact ⟨hx.1, Nat.zero_le _⟩
  | reset x y _ _ hq hr => exact ⟨by rw [hq]; exact Nat.zero_le _, by rw [hr]; exact Nat.zero_le _⟩
  | trans _ _ ih ih' => exact ih' (ih hx)
  | fail | recondition | request | grant | release => exact hx

/-- A site's queue stays in order (R43, R44). -/
theorem SiteMove.inOrder (h : SiteMove loads reads live region x y) (hx : queueInOrder x.queue = true) :
    queueInOrder y.queue = true := by
  induction h with
  | calm _ _ hq => rwa [hq]
  | age x => exact queueInOrder_age hx
  | remove x n =>
    rw [(Site.grantedIfEmpty_keeps { x with queue := x.queue.drop n }).1]
    exact queueInOrder_drop n hx
  | push x e _ _ _ hacc hage => exact queueInOrder_push hx hacc hage
  | leave x => exact queueInOrder_nil
  | reset x y _ _ hq => rw [hq]; exact queueInOrder_nil
  | trans _ _ ih ih' => exact ih' (ih hx)
  | ring | fail | recondition | request | grant | release | load => exact hx

/-- A record of a site after a counted fail (R68). -/
theorem Site.takeFail_get (x : Site) (g k : RegionNo) (p : Half × Col) :
    (x.takeFail g p).records.get k = if k = g then (x.records.get k).take p else x.records.get k := by
  refine (vector_get_set _ _ _ _).trans ?_
  split
  next h => rw [h]
  next => rfl

/-- A site's records stay sound where the table they are loaded from is in range (R66, R67). -/
theorem SiteMove.recordsSound (h : SiteMove loads reads live region x y)
    (hregion : ∀ g, (region.get g).sr ≤ 4 ∧ (region.get g).sc ≤ 4) (hx : ∀ g, (x.records.get g).sound = true) :
    ∀ g, (y.records.get g).sound = true := by
  induction h with
  | calm _ _ _ _ hrec => rwa [hrec]
  | remove x n => rwa [(Site.grantedIfEmpty_keeps { x with queue := x.queue.drop n }).2.2.1]
  | fail x g p =>
    intro k
    rw [Site.takeFail_get]
    split
    · exact Record.sound_take p (hx k)
    · exact hx k
  | load x =>
    intro g
    rw [mapVector_get]
    exact Record.sound_load _ (hregion g).1 (hregion g).2
  | reset x y _ _ _ _ hrec => intro g; rw [hrec]; decide
  | trans _ _ ih ih' => exact ih' (ih hx)
  | age | push | ring | leave | recondition | request | grant | release => exact hx

/-- A site's records are what they were where no fail is taken and none are loaded. -/
theorem SiteMove.records (h : SiteMove loads reads live region x y) (hl : ¬loads) (hr : ¬reads) : y.records = x.records := by
  induction h with
  | calm _ _ _ _ hrec => exact hrec
  | remove x n => exact (Site.grantedIfEmpty_keeps _).2.2.1
  | fail x g p k => exact absurd k hr
  | load x k => exact absurd k hl
  | reset x y k => exact absurd k hl
  | trans _ _ ih ih' => exact ih'.trans ih
  | age | push | ring | leave | recondition | request | grant | release => exact Eq.refl _

/-- The rules of R36 at a site, read apart: a queue that holds entries is at an ENABLED site that is not GRANTED, and a PENDING site is ENABLED with entries queued. -/
theorem Site.quiet_iff (x : Site) : x.quiet = true ↔
    (x.queue ≠ [] → x.condition = .enabled ∧ x.hold ≠ .granted) ∧
    (x.hold = .pending → x.condition = .enabled ∧ x.queue ≠ []) := by
  unfold Site.quiet
  simp only [Bool.and_eq_true, Bool.or_eq_true, beq_iff_eq, bne_iff_ne, Bool.not_eq_true', List.isEmpty_iff,
    ← Bool.not_eq_true, ne_eq]
  tauto

/-- A site keeps the rules of R36. -/
theorem SiteMove.quiet (h : SiteMove loads reads live region x y) (hx : x.quiet = true) : y.quiet = true := by
  induction h with
  | calm hc hh hq => rw [Site.quiet_iff] at hx ⊢; rwa [hc, hh, hq]
  | age x => rw [Site.quiet_iff] at hx ⊢; simpa using hx
  | remove x n =>
    rw [Site.quiet_iff] at hx ⊢
    unfold Site.grantedIfEmpty
    split
    next hg => exact ⟨fun hq => absurd hg.2 hq, nofun⟩
    next hg =>
      have hsome (hq : x.queue.drop n ≠ []) : x.queue ≠ [] := fun e => hq (by rw [e, List.drop_nil])
      exact ⟨fun hq => hx.1 (hsome hq), fun hp => ⟨(hx.2 hp).1, fun hq => hg ⟨hp, hq⟩⟩⟩
  | push x e _ hc hh =>
    rw [Site.quiet_iff]
    dsimp only
    rw [hc, hh]
    exact ⟨fun _ => ⟨rfl, nofun⟩, nofun⟩
  | leave x c =>
    rw [Site.quiet_iff]
    dsimp only
    refine ⟨fun hq => absurd rfl hq, fun hp => ?_⟩
    split at hp
    · exact nomatch hp
    next hn => exact absurd hp hn
  | recondition x c hc =>
    rw [Site.quiet_iff] at hx ⊢
    exact ⟨fun hq => absurd (hx.1 hq).1 hc, fun hp => absurd (hx.2 hp).1 hc⟩
  | request x hc hq => exact (Site.quiet_iff _).2 ⟨fun _ => ⟨hc, nofun⟩, fun _ => ⟨hc, hq⟩⟩
  | grant x hg =>
    rw [Site.quiet_iff] at hx ⊢
    refine ⟨fun hq => ?_, nofun⟩
    obtain hc | he := hg
    · exact absurd (hx.1 hq).1 hc
    · exact absurd he hq
  | release x => rw [Site.quiet_iff] at hx ⊢; exact ⟨fun hq => ⟨(hx.1 hq).1, nofun⟩, nofun⟩
  | reset x y _ hh hq => rw [Site.quiet_iff, hq, hh]; exact ⟨fun k => absurd rfl k, nofun⟩
  | trans _ _ ih ih' => exact ih' (ih hx)
  | ring | fail | load => exact hx

/-- A site whose queue is empty keeps it empty where nothing is pushed. -/
theorem SiteMove.queue_empty (h : SiteMove loads reads live region x y) (hl : ¬live) (hx : x.queue = []) : y.queue = [] := by
  induction h with
  | calm _ _ hq => rwa [hq]
  | age x => simpa using hx
  | remove x n =>
    rw [(Site.grantedIfEmpty_keeps { x with queue := x.queue.drop n }).1]
    exact List.drop_eq_nil_of_le (by simp [hx])
  | push x e k => exact absurd k hl
  | leave x => rfl
  | reset x y _ _ hq => exact hq
  | trans _ _ ih ih' => exact ih' (ih hx)
  | ring | fail | recondition | request | grant | release | load => exact hx

/-- The expiry test moves a site (R48). -/
theorem Site.expired_move (x : Site) (limit : Nat) : SiteMove loads reads live region x (x.expired limit) := by
  unfold Site.expired
  dsimp only
  split
  · exact .refl x
  · have hlose : SiteMove loads reads live region x (x.losing (x.queue.takeWhile (·.past limit))) := by
      rw [losing_spec]; exact .calm rfl rfl rfl rfl rfl
    have hqueue : (x.losing (x.queue.takeWhile (·.past limit))).queue = x.queue := by rw [losing_spec]
    have hrest := SiteMove.remove (loads := loads) (reads := reads) (live := live) (region := region)
      (x.losing (x.queue.takeWhile (·.past limit))) (x.queue.takeWhile (·.past limit)).length
    rw [hqueue] at hrest
    exact hlose.trans hrest

/-- A drop moves a site (R28, R32, R39). -/
theorem Site.droppedBy_move (x : Site) (c : DropCause) (running : Bool) :
    SiteMove loads reads live region x (x.droppedBy c running) :=
  .trans (.leave x (.dropped c) nofun) (.calm rfl rfl rfl rfl rfl)

/-- A STATUS word moves a site (R38, R39). -/
theorem Site.headFaulted_move (x : Site) (running : Bool) : SiteMove loads reads live region x (x.headFaulted running) := by
  unfold Site.headFaulted
  split
  · exact Site.droppedBy_move x _ running
  next h => exact .recondition x _ (by rw [h]; nofun)
  · exact .refl x

/-- A compare up to its analysis moves a site (R50, R52). -/
theorem Site.compared_move (x : Site) (e : Entry) (data : Half) : SiteMove loads reads live region x (x.compared e data) := by
  unfold Site.compared
  split
  · exact .calm rfl rfl rfl rfl rfl
  · exact .trans (.ring x (ringEntryOf e (failBitsOf e data))) (.calm rfl rfl rfl rfl rfl)

/-- A link loss moves a site (R53). -/
theorem lostSite_move (opened : Bool) (x : Site) : SiteMove loads reads live region x (lostSite opened x) := by
  by_cases hq : x.queue = []
  · exact .calm rfl (by simp [lostSite, hq]) (by simp [lostSite, hq]) rfl rfl
  · refine .trans (.remove x x.queue.length) (.calm ?_ ?_ ?_ ?_ ?_) <;>
      simp only [Site.grantedIfEmpty, List.drop_length, and_true, lostSite, ne_eq, hq, not_false_eq_true] <;> split <;> rfl

/-- A SET SITES moves a site (R28 to R31). -/
theorem Site.setSite_move (x : Site) (inPass on d : Bool) (h : ¬(x.condition = .enabled ∧ on = false)) :
    SiteMove loads reads live region x (x.setSite inPass on d) := by
  have hset : SiteMove loads reads live region x { x with dropOn := d } := .calm rfl rfl rfl rfl rfl
  unfold Site.setSite
  dsimp only
  cases on with
  | true =>
    cases hc : x.condition with
    | disabled =>
      have hne : x.condition ≠ .enabled := by rw [hc]; nofun
      dsimp only
      split
      · exact hset.trans (.recondition _ _ hne)
      · exact hset.trans (.recondition _ _ hne)
    | enabled => exact .calm (by simp [hc]) rfl rfl rfl rfl
    | dropped c => exact .calm (by simp [hc]) rfl rfl rfl rfl
  | false =>
    cases hc : x.condition with
    | disabled => exact .calm (by simp [hc]) rfl rfl rfl rfl
    | enabled => exact absurd ⟨hc, rfl⟩ h
    | dropped c =>
      have hne : x.condition ≠ .enabled := by rw [hc]; nofun
      dsimp only
      split
      · exact (hset.trans (.recondition _ .disabled hne)).trans (.calm rfl rfl rfl rfl rfl)
      · exact hset.trans (.recondition _ .disabled hne)

/-- A disabled site leaves ENABLED (R28 to R31). -/
theorem Site.setSite_leave (x : Site) (inPass d running : Bool) :
    let y := x.setSite inPass false d
    x.condition = .enabled → SiteMove loads reads live region x { y with
      queue := [], command := .park, hold := if y.hold = .pending then .granted else y.hold
      lane := if running then .online else y.lane } := by
  intro y hc
  have hy : y.condition = .disabled ∧ y.hold = x.hold ∧ y.ring = x.ring ∧ y.records = x.records := by
    simp only [y, Site.setSite, hc]
    split <;> simp
  obtain ⟨hyc, hyh, hyr, hyrec⟩ := hy
  exact .trans (.leave x .disabled nofun) (.calm hyc (by simp only [hyh]) rfl hyr hyrec)

end

end Sys2Proof.Machine
end

section
/-! PROOFS. What a command does, cut into acts: each act is one operation with what the part finds when it makes it, and every command is a sequence of acts. A rule that each act keeps, every command keeps. -/

namespace Sys2Proof.Machine

/-- Nothing differs that a rule of the part speaks of: counters, marks, masks, input lines, outputs, draws and the numbering may. -/
structure Calm (s t : State) : Prop where
  link : t.link = { s.link with
    signal := t.link.signal, syqIn := t.link.syqIn, checkErrors := t.link.checkErrors
    unknownKinds := t.link.unknownKinds, exerciseErrors := t.link.exerciseErrors }
  tables : t.tables = s.tables
  site : ∀ i, t.site i = { s.site i with
    dropOn := (t.site i).dropOn, current := (t.site i).current, snapshot := (t.site i).snapshot
    changed := (t.site i).changed, laneErrors := (t.site i).laneErrors, counts := (t.site i).counts
    flags := (t.site i).flags, command := (t.site i).command }
  cal : t.cal = s.cal
  pass : t.pass = s.pass
  fifo : t.ret.fifo = s.ret.fifo
  responses : t.ret.responses = s.ret.responses
  reports : t.ret.reports = s.ret.reports
  waiting : t.notice.waiting = s.notice.waiting
  revision : t.revision = s.revision
  pending : t.pending = s.pending

/-- What sites and slots do: the operations of Site Control, the Compare Unit and the Repair Analyser. `reads` names the sites at which a word may be compared. -/
inductive SiteAct (reads : SiteNo → Prop) : State → State → Prop
  | age (s : State) : SiteAct reads s s.ageAll
  | expireAll (s : State) : SiteAct reads s s.expireAll
  | expire (s : State) (i : SiteNo) : SiteAct reads s (s.expireSite i).settleDrain
  | issue (s : State) (c : Cycle) (p : SiteNo → Bool) : s.link.state = .live → SiteAct reads s (s.issueWhere c p)
  | between (s : State) (c : Cycle) (p : SiteNo → Bool) : s.link.state = .live →
      SiteAct reads s (s.expireSites.issueWhere c p).settleDrain
  | read (s : State) (i : SiteNo) (tag data : Half) : reads i → SiteAct reads s (s.takeReadData i tag data)
  | status (s : State) (i : SiteNo) (bits : Byte) : SiteAct reads s (s.takeStatus i bits)
  | setSites (s : State) (enable drop : Half) : SiteAct reads s (s.applySites enable drop)
  | request (s : State) (i : SiteNo) : SiteAct reads s (s.holdRequest i)
  | release (s : State) (i : SiteNo) : SiteAct reads s (s.holdRelease i)
  | settle (s : State) : SiteAct reads s s.settleDrain
  | raise (s : State) (f : NoticeFlag) : SiteAct reads s (s.raiseFlag f)

/-- What the Lane Calibration Unit does. -/
inductive CalAct : State → State → Prop
  | start (s : State) : CalAct s s.calStart
  | stop (s : State) : CalAct s s.calStop
  | abort (s : State) : CalAct s s.calAbort
  | retry (s : State) (i : SiteNo) : (s.site i).lane = .degraded → (s.site i).condition = .enabled → CalAct s (s.calRetry i)
  | train (s : State) (i : SiteNo) (words : List WordPair) : s.stage = .trainingScan i → CalAct s (s.trainWords i words)
  | shadow (s : State) (i : SiteNo) (words : List WordPair) : s.stage = .shadow i → CalAct s (s.shadowWords words)
  | offline (s : State) (i : SiteNo) (words : List WordPair) : s.stage = .offlineScan i → CalAct s (s.offlineWords i words)
  | soak (s : State) (i : SiteNo) (words : List WordPair) : s.stage = .soak i → CalAct s (s.soakWords i words)
  | tick (s : State) : CalAct s s.tick
  | expiry (s : State) : s.cal.running = true → CalAct s s.intervalExpiry
  | attempt (s : State) : CalAct s s.attemptRun
  | handOver (s : State) (i : SiteNo) : s.stage = .shadow i → s.cal.boundary = some .handover → CalAct s (s.handOver i)
  | complete (s : State) (i : SiteNo) : s.stage = .soak i → s.cal.boundary = some .handBack → CalAct s (s.completeRun i)

/-- What the Link Receiver does, link loss apart. -/
inductive LinkAct : State → State → Prop
  | release (s : State) : LinkAct s { s with link := { s.link with crst := false } }
  | up (s : State) : s.link.state = .down → s.link.crst = false →
      LinkAct s { s with link := { s.link with state := .seek, candidate := none } }
  | down (s : State) : s.link.state = .seek → LinkAct s { s with link := { s.link with state := .down, candidate := none } }
  | count (s : State) (a : Arrival) : s.link.state = .live → (s.link.count a).lossDue = false →
      LinkAct s { s with link := s.link.count a }
  | search (s : State) (a : Arrival) : s.link.state = .seek → LinkAct s (s.seekSlot a)

/-- One act of a command. `loads` allows the acts that load or reset analysis records. -/
inductive Act (loads : Prop) (reads : SiteNo → Prop) : State → State → Prop
  | calm {s t : State} : Calm s t → Act loads reads s t
  | site {s t : State} : SiteAct reads s t → Act loads reads s t
  | cal {s t : State} : CalAct s t → Act loads reads s t
  | link {s t : State} : LinkAct s t → Act loads reads s t
  | loss (s : State) (l : LinkRx) : s.link.state = .live → l.crst = s.link.crst →
      Act loads reads s (State.linkLoss { s with link := l })
  | powerOn (s : State) : loads → Act loads reads s s.powerOn
  | lineReset (s : State) : loads → s.link.crst = false →
      Act loads reads s (State.lineReset { s with link := { s.link with crst := true } })
  | partReset (s : State) : loads → s.link.state = .live → Act loads reads s s.partReset
  | write {s t : State} (id : TableId) (index : Nat) (b : List Byte) (clamped : Bool) :
      s.writeEntry id index b = .ok (t, clamped) → Act loads reads s t
  | openPass (s : State) (n : Byte) : loads → s.pass.state = .idle ∨ s.pass.state = .closed →
      Act loads reads s (s.openPass n)
  | closePass (s : State) (f : Frame) : s.pass.state = .opened → s.responseRoom = true →
      Act loads reads s (s.closing.enqueueResponse f).settleDrain
  | respond (s : State) (f : Frame) : s.responseRoom = true → Act loads reads s (s.enqueueResponse f)
  | takeReturn (s : State) (f : Frame) : Act loads reads s (s.takeReturn f)
  | returnSlot (s : State) : Act loads reads s s.returnSlot
  | summary (s : State) : Act loads reads s s.enqueueSummary
  | notify (s : State) : Act loads reads s s.admitNotice

/-- A sequence of acts. -/
abbrev Acts (loads : Prop) (reads : SiteNo → Prop) : State → State → Prop := Relation.ReflTransGen (Act loads reads)

/-- A rule that each act keeps, a sequence of acts keeps. -/
theorem Acts.keeps {loads : Prop} {reads : SiteNo → Prop} {P : State → Prop} (h : ∀ s t, Act loads reads s t → P s → P t)
    {s t : State} (hst : Acts loads reads s t) (hs : P s) : P t := by
  induction hst with
  | refl => exact hs
  | tail _ hact ih => exact h _ _ hact ih

/-- Nothing at all is calm. -/
theorem Calm.refl (s : State) : Calm s s := by constructor <;> intros <;> rfl

/-- Two calm changes one after the other are one. -/
theorem Calm.trans {s t u : State} (h : Calm s t) (k : Calm t u) : Calm s u where
  link := by rw [k.link, h.link]
  tables := k.tables.trans h.tables
  site := fun i => by rw [k.site i, h.site i]
  cal := k.cal.trans h.cal
  pass := k.pass.trans h.pass
  fifo := k.fifo.trans h.fifo
  responses := k.responses.trans h.responses
  reports := k.reports.trans h.reports
  waiting := k.waiting.trans h.waiting
  revision := k.revision.trans h.revision
  pending := k.pending.trans h.pending

/-- A change of the sites that leaves what rules speak of is calm. -/
theorem Calm.ofSites {s t : State} (h : SitesOnly s t) (hsite : ∀ i, t.site i = { s.site i with
    dropOn := (t.site i).dropOn, current := (t.site i).current, snapshot := (t.site i).snapshot
    changed := (t.site i).changed, laneErrors := (t.site i).laneErrors, counts := (t.site i).counts
    flags := (t.site i).flags, command := (t.site i).command }) : Calm s t where
  link := by rw [h.link]
  tables := h.tables
  site := hsite
  cal := h.cal
  pass := h.pass
  fifo := by rw [h.ret]
  responses := by rw [h.ret]
  reports := by rw [h.ret]
  waiting := by rw [h.notice]
  revision := h.revision
  pending := h.pending

/-- A change of one site that leaves what rules speak of is calm. -/
theorem Calm.onSite (s : State) (i : SiteNo) {f : Site → Site} (h : f (s.site i) = { s.site i with
    dropOn := (f (s.site i)).dropOn, current := (f (s.site i)).current, snapshot := (f (s.site i)).snapshot
    changed := (f (s.site i)).changed, laneErrors := (f (s.site i)).laneErrors, counts := (f (s.site i)).counts
    flags := (f (s.site i)).flags, command := (f (s.site i)).command }) : Calm s (s.onSite i f) :=
  Calm.ofSites (onSite_only s i f) fun j => by
    rw [State.site_onSite]
    split
    next hj => subst hj; exact h
    next => rfl

/-- What a step starts from is calm: the outputs are cleared. -/
theorem begin_calm (s : State) : Calm s s.begin := by constructor <;> intros <;> rfl

/-- The NOPs of a slot are calm (R23). -/
theorem slotNops_calm (s : State) : Calm s s.slotNops :=
  Calm.ofSites (slotNops_only s) fun i => by rw [State.site_slotNops]; split <;> rfl

/-- The numbering of a cycle is calm (R15, R16). -/
theorem trackCycle_calm (s : State) (n : Half) : Calm s (s.trackCycle n) := by
  unfold State.trackCycle
  dsimp only
  split
  · let numbered : State := { s with expander := s.expander.track n }
    have hnumbered : Calm s numbered := by constructor <;> intros <;> rfl
    refine hnumbered.trans (Calm.ofSites (Eq.refl _) fun i => ?_)
    rw [State.site_onSites]
    split <;> rfl
  · constructor <;> intros <;> rfl

/-- A READ HEAD STATUS re-arms sites, which is calm (R40). -/
theorem rearm_acts {loads : Prop} {reads : SiteNo → Prop} (l : List SiteNo) (s : State) :
    Acts loads reads s (l.foldl (fun t i => t.onSite i Site.rearm) s) := by
  induction l generalizing s with
  | nil => exact .refl
  | cons i l ih => exact .head (.calm (Calm.onSite s i rfl)) (ih _)

section
variable {loads : Prop} {reads : SiteNo → Prop}

/-- One act is a sequence of acts. -/
theorem Act.acts {s t : State} (h : Act loads reads s t) : Acts loads reads s t := .single h

/-- A slot that is no expanded CYCLE is its expiry tests and its NOPs (R23, R48). -/
theorem plainSlot_acts (s : State) : Acts loads reads s s.plainSlot :=
  (Act.acts (.site (.expireAll s))).trans (Act.acts (.calm (slotNops_calm _)))

/-- An expanded CYCLE is its expiry tests and its expansion in the order the draws give (R14, R22). -/
theorem cycleSlot_acts (s : State) (c : Cycle) (h : s.link.state = .live) : Acts loads reads s (s.cycleSlot c) := by
  have hnumbered (t : State) (ht : t.link = s.link) : (t.trackCycle c.number).link.state = .live := by
    have : (t.trackCycle c.number).link = t.link := by unfold State.trackCycle; dsimp only; split <;> rfl
    rw [this, ht, h]
  unfold State.cycleSlot
  split
  · let s₁ := s.drawnBy 32
    let s₂ := s₁.trackCycle c.number
    have h₂ : s₂.link.state = .live := hnumbered s₁ rfl
    have h₃ : (s₂.issueWhere c fun i => s.drawAt i.val).link.state = .live := by rw [(issueWhere_only _ _ _).link, h₂]
    have hdrawn : Calm s s₁ := by constructor <;> intros <;> rfl
    refine Relation.ReflTransGen.head (.calm hdrawn) (.head (.calm (trackCycle_calm s₁ c.number))
      (.head (.site (.issue s₂ c _ h₂)) (.head (.site (.between _ c _ h₃)) (.single (.site (.issue _ c _ ?_))))))
    rw [(settleDrain_only _).link, (issueWhere_only _ _ _).link, (expireSites_only _).link, h₃]
  · refine Relation.ReflTransGen.head (.site (.expireAll s)) (.head (.calm (trackCycle_calm _ c.number))
      (.single (.site (.issue _ c _ ?_))))
    exact hnumbered _ (expireAll_event s).toLocal.link

/-- A frame taken is its slot's acts, and in LIVE those of its action (R132 to R141). -/
theorem takeFrame_acts {act : State → State} (hact : ∀ u : State, u.link.state = .live → Acts loads reads u (act u))
    (s : State) (f : Frame) (a : Arrival) : Acts loads reads s (s.takeFrame f a act) := by
  have hforward : Calm s (s.forward f a) := by constructor <;> intros <;> rfl
  cases hs : s.link.state with
  | down => rw [takeFrame_down s f a act hs]
  | seek =>
    rw [takeFrame_seek s f a act hs]
    refine Relation.ReflTransGen.head (.calm hforward) (.head (.site (.age _)) (.head (.site (.expireAll _))
      (.single (.link (.search _ a ?_)))))
    rw [(expireAll_event _).toLocal.link]
    exact hs
  | live =>
    cases hd : (s.link.count a).lossDue with
    | true =>
      rw [takeFrame_loss s f a act hs hd]
      exact .head (.calm hforward) (.head (.site (.age _)) (.single (.loss (s.forward f a).ageAll (s.link.count a) hs rfl)))
    | false =>
      rw [takeFrame_live s f a act hs hd]
      exact .head (.calm hforward) (.head (.link (.count (s.forward f a) a hs hd)) (.head (.site (.age _)) (hact _ hs)))

/-- The entries of a WRITE TABLE are acts, and leave the response queue as it is (R9). -/
theorem writeEntries_acts (id : TableId) (n : Nat) (s : State) (index : Nat) (bytes : List Byte) (applied : Nat) (clamped : Bool) :
    Acts loads reads s (s.writeEntries id n index bytes applied clamped).state ∧
      (s.writeEntries id n index bytes applied clamped).state.ret = s.ret := by
  induction n generalizing s index bytes applied clamped with
  | zero => exact ⟨.refl, rfl⟩
  | succ n ih =>
    unfold State.writeEntries
    split
    · exact ⟨.refl, rfl⟩
    next t c h =>
      obtain ⟨hacts, hret⟩ := ih t (index + 1) (bytes.drop id.entrySize) (applied + 1) (clamped || c)
      exact ⟨.head (.write id index _ c h) hacts, by rw [hret, writeEntry_tables s t id index _ c h]⟩

/-- A WRITE TABLE is acts that leave the response queue as it is (R8, R9). -/
theorem writeTable_acts (s : State) (inPass : Bool) (table start count : Byte) (entries : List Byte) :
    Acts loads reads s (s.writeTable inPass table start count entries).state ∧
      (s.writeTable inPass table start count entries).state.ret = s.ret := by
  have hnone : Acts loads reads s s ∧ s.ret = s.ret := ⟨.refl, rfl⟩
  unfold State.writeTable
  split
  · exact hnone
  · split
    · exact hnone
    · split
      · exact hnone
      · split
        · exact hnone
        · exact writeEntries_acts _ _ _ _ _ _ _

/-- A CAL CONTROL is what its action does and its response (R111). -/
theorem reqCalControl_acts (s : State) (c : Ctl) (action site : Byte) (hroom : s.responseRoom = true) :
    Acts loads reads s (s.reqCalControl c action site) := by
  have hanswer (t : State) (h : t.ret = s.ret) (status : Status) : Acts loads reads t (t.answerCal c status) := by
    refine .single (.respond _ _ ?_)
    rwa [State.responseRoom, h]
  have hact {t : State} (h : CalAct s t) (hret : t.ret = s.ret) (status : Status) : Acts loads reads s (t.answerCal c status) :=
    .head (.cal h) (hanswer t hret status)
  unfold State.reqCalControl
  split
  · exact hact (.start s) (by unfold State.calStart; split <;> rfl) .accepted
  · exact hact (.stop s) (by unfold State.calStop; split <;> rfl) .accepted
  · refine hact (.abort s) ?_ .accepted
    unfold State.calAbort
    split
    · rfl
    · exact (endRun_only s).ret
  · unfold State.reqCalRetry
    split
    · exact hanswer s rfl _
    · dsimp only
      split
      next h => exact hact (.retry s _ h.1 h.2) rfl .accepted
      next => exact hanswer s rfl _
  · exact hanswer s rfl _
  · exact hanswer s rfl _

/-- A request executed with room for its response is acts; those of RESET PART and OPEN PASS load or reset records (R178). -/
theorem requestOf_acts (s : State) (c : Ctl) (code : Byte) (p : List Byte) (hlive : s.link.state = .live)
    (hroom : s.responseRoom = true) (hloads : code = 0x03 ∨ code = 0x30 → loads) :
    Acts loads reads s (s.requestOf c code p) := by
  have hroom' (t : State) (h : t.ret.responses = s.ret.responses) : t.responseRoom = true := by
    rwa [State.responseRoom, h]
  have hanswer (t : State) (h : t.ret.responses = s.ret.responses) (code : Byte) (st : Status) (data : List Byte) :
      Acts loads reads t (t.answer c code st data) := .single (.respond _ _ (hroom' t h))
  unfold State.requestOf
  split
  case h_1 =>
    have hpos (p : Option ChainPos) : Calm s { s with chainPos := p } := by constructor <;> intros <;> rfl
    unfold State.reqEnumerate
    split
    · exact hanswer s rfl _ _ _
    · split
      · exact .head (.calm (hpos _)) (hanswer { s with chainPos := some (Fin.ofNat 8 (p.getD 0 0).toNat) } rfl _ _ _)
      · exact .head (.calm (hpos _)) (hanswer { s with chainPos := none } rfl _ _ _)
  case h_2 =>
    unfold State.reqResync
    split
    · exact hanswer s rfl _ _ _
    · exact (hanswer s rfl _ _ _).trans (.single (.loss _ s.link hlive rfl))
  case h_3 h =>
    refine .head (.partReset s (hloads (.inl (BitVec.eq_of_toNat_eq h))) hlive) (.single (.respond _ _ ?_))
    simp [State.responseRoom, State.partReset]
  case h_4 =>
    refine (hanswer s rfl codeReadStatus .accepted s.statusData).trans (.single (.calm ?_))
    constructor <;> intros <;> rfl
  case h_5 =>
    let t : State := { s with
      ret := { s.ret with rawLog := half p 0 }, notice := { s.notice with mask := p.getD 2 0 } }
    have hset : Calm s t := by constructor <;> intros <;> rfl
    exact .head (.calm hset) (hanswer t rfl _ _ _)
  case h_6 =>
    have hclear : Calm s (s.clearNoticeFlags (p.getD 0 0)) := by constructor <;> intros <;> rfl
    exact .head (.calm hclear) (hanswer (s.clearNoticeFlags _) rfl _ _ _)
  case h_7 =>
    obtain ⟨hacts, hret⟩ := writeTable_acts (loads := loads) (reads := reads) s s.inPass (p.getD 0 0) (p.getD 1 0) (p.getD 2 0)
      (p.drop 3)
    exact hacts.trans (.single (.respond _ _ (hroom' _ (by rw [hret]))))
  case h_8 => exact hanswer s rfl _ _ _
  case h_9 =>
    refine Relation.ReflTransGen.head (.site (.setSites s _ _)) (hanswer _ ?_ _ _ _)
    rw [(applySites_event s _ _).toLocal.ret]
  case h_10 =>
    unfold State.reqReadHeadStatus
    split
    · exact hanswer s rfl _ _ _
    · exact (hanswer s rfl _ _ _).trans (rearm_acts _ _)
  case h_11 =>
    unfold State.reqReadSiteCounts
    split
    · exact hanswer s rfl _ _ _
    · exact hanswer s rfl _ _ _
  case h_12 =>
    unfold State.reqReadSiteAnalysis
    split
    · exact hanswer s rfl _ _ _
    · exact hanswer s rfl _ _ _
  case h_13 h =>
    have hl : loads := hloads (.inr (BitVec.eq_of_toNat_eq h))
    unfold State.reqOpenPass
    split
    next hp => exact .head (.openPass s _ hl (.inl hp)) (hanswer (s.openPass _) rfl _ _ _)
    next hp => exact .head (.openPass s _ hl (.inr hp)) (hanswer (s.openPass _) rfl _ _ _)
    · exact hanswer s rfl _ _ _
    · exact hanswer s rfl _ _ _
  case h_14 =>
    unfold State.reqClosePass
    split
    next hp => exact .single (.closePass s _ hp hroom)
    · exact hanswer s rfl _ _ _
    · exact hanswer s rfl _ _ _
    · exact hanswer s rfl _ _ _
  case h_15 => exact reqCalControl_acts s c _ _ hroom
  case h_16 => exact hanswer s rfl _ _ _

/-- A CONTROL frame's acts: its slot, and its request where it is taken and there is room (R175, R176). -/
theorem request_acts (s : State) (c : Ctl) (code : Byte) (p : List Byte) (hlive : s.link.state = .live)
    (hloads : code = 0x03 ∨ code = 0x30 → loads) : Acts loads reads s (s.request c fun t => t.requestOf c code p) := by
  cases ht : s.takes c with
  | false => rw [request_of_not_taken s c _ ht]
  | true =>
    cases hr : s.responseRoom with
    | false => rw [request_of_full s c _ ht hr]; exact .single (.site (.raise s _))
    | true => rw [request_of_room s c _ ht hr]; exact requestOf_acts s c code p hlive hr hloads

/-- The word period of a lane error is acts of calibration (R127). -/
theorem comparePeriod_acts (s : State) (i : SiteNo) (p : WordPair) : Acts loads reads s (s.comparePeriod i p) := by
  obtain h | ⟨-, ⟨hs, h⟩ | ⟨hs, h⟩ | ⟨hs, h⟩ | ⟨hs, h⟩⟩ := comparePeriod_cases s i p
  · rw [h]
  all_goals rw [h]
  · exact .single (.cal (.train s i [p] hs))
  · exact .single (.cal (.shadow s i [p] hs))
  · exact .single (.cal (.offline s i [p] hs))
  · exact .single (.cal (.soak s i [p] hs))

/-- A signal present brings a part that is DOWN and not in reset to SEEK (R133). -/
theorem signalPresent_acts (s : State) : Acts loads reads s s.signalPresent := by
  have hsignal : Calm s { s with link := { s.link with signal := true } } := by constructor <;> intros <;> rfl
  unfold State.signalPresent
  dsimp only
  split
  next h => exact .head (.calm hsignal) (.single (.link (.up { s with link := { s.link with signal := true } } h.1 h.2)))
  next => exact .single (.calm hsignal)

/-- The release of CRST_N brings a part with signal to SEEK (R133). -/
theorem crstReleased_acts (s : State) : Acts loads reads s s.crstReleased := by
  unfold State.crstReleased
  dsimp only
  split
  next h =>
    exact .head (.link (.release s)) (.single (.link (.up { s with link := { s.link with crst := false } } h.2.1 rfl)))
  next => exact .single (.link (.release s))

/-- A link loss ends in SEEK (R138). -/
theorem linkLoss_seek (s : State) : s.linkLoss.link.state = .seek := by simp only [State.linkLoss_link]

/-- The loss of the signal is a link loss in LIVE, and brings the part to DOWN (R139). -/
theorem signalLost_acts (s : State) : Acts loads reads s s.signalLost := by
  have hsignal : Calm s { s with link := { s.link with signal := false } } := by constructor <;> intros <;> rfl
  unfold State.signalLost
  dsimp only
  split
  next h =>
    have hloss : Act loads reads s (State.linkLoss { s with link := { s.link with signal := false } }) := .loss s _ h rfl
    have hseek := linkLoss_seek { s with link := { s.link with signal := false } }
    generalize State.linkLoss { s with link := { s.link with signal := false } } = t at hloss hseek
    exact .head hloss (.single (.link (.down t hseek)))
  next h => exact .head (.calm hsignal) (.single (.link (.down { s with link := { s.link with signal := false } } h)))
  next => exact .single (.calm hsignal)

end

/-- The rows that load or reset analysis records: the resets, and the CONTROL rows whose code is that of RESET PART or OPEN PASS. -/
def loadsRecords (c : Instr) : Prop :=
  c = .powerOnReset ∨ c = .crstAsserted ∨
    ∃ (k : Ctl) (code : Byte) (p : List Byte), controlOf c = some (k, code, p) ∧ (code = 0x03 ∨ code = 0x30)

/-- The site whose word a row compares. -/
def readsAt (c : Instr) (i : SiteNo) : Prop := ∃ tag data : Half, c = .readDataWord i tag data

section
variable {loads : Prop} {reads : SiteNo → Prop}

/-- A row that starts as a step does and then makes acts makes acts. -/
theorem acts_of_begin {c : Instr} {s t u : State} (h : exec c s = .next t) (e : exec c s = .next u)
    (hu : Acts loads reads s.begin u) : Acts loads reads s t := by
  obtain rfl : u = t := by rw [e] at h; exact Host.Outcome.next.inj h
  exact .head (.calm (begin_calm s)) hu

/-- A CONTROL row makes acts (R132, R175, R178). -/
theorem control_acts {c : Instr} {k : Ctl} {code : Byte} {p : List Byte} (hc : controlOf c = some (k, code, p)) {s t : State}
    (h : exec c s = .next t) (hloads : code = 0x03 ∨ code = 0x30 → loads) : Acts loads reads s t :=
  acts_of_begin h (exec_control hc s) (takeFrame_acts (fun u hu =>
    (plainSlot_acts u).trans (request_acts u.plainSlot k code p (by rw [State.plainSlot_link, hu]) hloads)) _ _ _)

/-- Every command is a sequence of acts; those that load or reset records or compare a word it makes only where its row says so. -/
theorem exec_acts {c : Instr} {s t : State} (h : exec c s = .next t) : Acts (loadsRecords c) (readsAt c) s t := by
  have hslot (f : State → State) (hf : ∀ u, Calm u (f u)) (u : State) :
      Acts (loadsRecords c) (readsAt c) u (f u.plainSlot) := (plainSlot_acts u).trans (.single (.calm (hf _)))
  cases hc : controlOf c with
  | some x =>
    obtain ⟨k, code, p⟩ := x
    exact control_acts hc h fun hcode => .inr (.inr ⟨k, code, p, hc, hcode⟩)
  | none =>
    cases c <;> simp only [controlOf, reduceCtorEq] at hc <;> refine acts_of_begin h rfl ?_
    case powerOnReset => exact .single (.powerOn _ (.inl rfl))
    case crstAsserted =>
      by_cases hcrst : s.link.crst = true
      · rw [if_pos hcrst]
      · rw [if_neg hcrst]
        exact .single (.lineReset s.begin (.inr (.inl rfl)) (Bool.not_eq_true _ ▸ hcrst))
    case crstReleased => exact crstReleased_acts _
    case signalPresent => exact signalPresent_acts _
    case signalLost => exact signalLost_acts _
    case idleFrame => exact takeFrame_acts (fun u _ => plainSlot_acts u) _ _ _
    case alignFrame => exact takeFrame_acts (fun u _ => plainSlot_acts u) _ _ _
    case cycleFrame k => exact takeFrame_acts (fun u hu => cycleSlot_acts u k hu) _ _ _
    case exerciseFrame seed sequence =>
      exact takeFrame_acts (fun u _ => hslot (fun v => v.exercise seed sequence) (fun v => by
        constructor <;> intros <;> rfl) u) _ _ _
    case unknownKindFrame =>
      exact takeFrame_acts (fun u _ => hslot
        (fun v => { v with link := { v.link with unknownKinds := satAdd v.link.unknownKinds 1 } }) (fun v => by
          constructor <;> intros <;> rfl) u) _ _ _
    case badFrame f =>
      exact takeFrame_acts (fun u _ => hslot (fun v => v.badAct f) (fun v => by
        unfold State.badAct
        split <;> (constructor <;> intros <;> rfl)) u) _ _ _
    case entryExpiry i =>
      by_cases hnone : s.expiredAt i = []
      · rw [if_pos hnone]
      · rw [if_neg hnone]
        exact .single (.site (.expire s.begin i))
    case readDataWord i tag data => exact .single (.site (.read s.begin i tag data ⟨tag, data, rfl⟩))
    case statusWord i bits => exact .single (.site (.status s.begin i bits))
    case holdRequestWord i => exact .single (.site (.request s.begin i))
    case holdReleaseWord i => exact .single (.site (.release s.begin i))
    case idleWord => exact .refl
    case laneWordError i word => exact .head (.calm (Calm.onSite s.begin i rfl)) (comparePeriod_acts _ i word)
    case calibrationTick => exact .single (.cal (.tick s.begin))
    case intervalCountExpiry =>
      by_cases hrun : (s.cal.running && decide (s.cal.count.toNat ≤ 1)) = true
      · rw [if_pos hrun]
        exact .single (.cal (.expiry s.begin (Bool.and_eq_true_iff.1 hrun).1))
      · rw [if_neg hrun]
    case calibrationRunStart => exact .single (.cal (.attempt s.begin))
    case trainingScanEnd words =>
      split
      next i hs => exact .single (.cal (.train s.begin i _ hs))
      next => exact .refl
    case shadowAgreementSuccess words =>
      split
      next i hs => exact .single (.cal (.shadow s.begin i _ hs))
      next => exact .refl
    case shadowAgreementTimeout words =>
      split
      next i hs => exact .single (.cal (.shadow s.begin i _ hs))
      next => exact .refl
    case handover =>
      split
      next i hs =>
        split
        next hb => exact .single (.cal (.handOver s.begin i hs hb))
        next => exact .refl
      next => exact .refl
    case offlineScanEnd words =>
      split
      next i hs => exact .single (.cal (.offline s.begin i _ hs))
      next => exact .refl
    case soakDisagreement words =>
      split
      next i hs => exact .single (.cal (.soak s.begin i _ hs))
      next => exact .refl
    case soakSuccess words =>
      split
      next i hs => exact .single (.cal (.soak s.begin i _ hs))
      next => exact .refl
    case handBack =>
      split
      next i hs =>
        split
        next hb => exact .single (.cal (.complete s.begin i hs hb))
        next => exact .refl
      next => exact .refl
    case returnFrameReceived f => exact .single (.takeReturn s.begin f)
    case returnSignalLost => exact .refl
    case hofInChange => exact .single (.calm (by constructor <;> intros <;> rfl))
    case syqInChange => exact .single (.calm (by constructor <;> intros <;> rfl))
    case returnFrameSlot => exact .single (.returnSlot s.begin)
    case drainComplete => exact .single (.site (.settle s.begin))
    case summaryEnqueue => exact .single (.summary s.begin)
    case pendingNoticeEnters => exact .single (.notify s.begin)

end

end Sys2Proof.Machine
end

section
/-! PROOFS. What each kind of act changes: the footprints of calibration, of the Link Receiver and of the return link, and the move that every act makes at a site. -/

namespace Sys2Proof.Machine

/-- Nothing differs but what the ends of runs write, and at the sites the lanes and flags only. -/
structure LanesOnly (s t : State) : Prop where
  runs : RunsOnly s t
  site : ∀ i, t.site i = { s.site i with lane := (t.site i).lane, flags := (t.site i).flags }

/-- A state differs from itself in nothing. -/
theorem LanesOnly.refl (s : State) : LanesOnly s s := ⟨.rfl s, fun _ => rfl⟩

/-- Two such changes one after the other are one. -/
theorem LanesOnly.trans {s t u : State} (h : LanesOnly s t) (k : LanesOnly t u) : LanesOnly s u :=
  ⟨h.runs.trans k.runs, fun i => by rw [k.site i, h.site i]⟩

/-- A change of calibration only. -/
theorem LanesOnly.cal (s : State) (x : Cal) : LanesOnly s { s with cal := x } := ⟨⟨rfl, fun _ => rfl⟩, fun _ => rfl⟩

/-- A change of one site's lane and flags. -/
theorem LanesOnly.onSite (s : State) (i : SiteNo) (l : LaneState) (g : SiteFlags) :
    LanesOnly s (s.setSite i { s.site i with lane := l, flags := g }) :=
  ⟨⟨rfl, fun _ => rfl⟩, fun j => by
    rw [State.site_setSite]
    split
    next h => subst h; rfl
    next => rfl⟩

/-- A lane set. -/
theorem LanesOnly.lane (s : State) (i : SiteNo) (l : LaneState) : LanesOnly s (s.setLane i l) := .onSite s i l (s.site i).flags

/-- A start attempted touches calibration only (R113). -/
theorem attemptRun_lanes (s : State) : LanesOnly s s.attemptRun := by
  rw [attemptRun_spec]; exact .cal s _

/-- The end of a run touches calibration and the lanes (R124). -/
theorem endRun_lanes (s : State) : LanesOnly s s.endRun := by
  cases h : s.cal.target with
  | none => rw [endRun_of_none s h]; exact .refl s
  | some i =>
    rw [endRun_of_target s i h]
    exact ((LanesOnly.lane s i .online).trans (.cal _ s.cal.released)).trans (attemptRun_lanes _)

/-- The hand-back touches calibration, the lanes and a lane phase (R122). -/
theorem completeRun_lanes (s : State) (i : SiteNo) : LanesOnly s (s.completeRun i) := by
  refine ⟨completeRun_only s i, fun j => ?_⟩
  rw [completeRun_spec, State.attemptRun_site]
  exact (LanesOnly.lane s i .online).site j

/-- An offline scan begun touches calibration and the lanes (R120). -/
theorem beginOffline_lanes (s : State) (i : SiteNo) : LanesOnly s (s.beginOffline i) :=
  (LanesOnly.lane s i .offlineCal).trans (.cal _ _)

/-- Calibration acted, and at most LANE_DEGRADED was set after it. -/
def LanesThenFlag (s t : State) : Prop := ∃ u, LanesOnly s u ∧ (t = u ∨ t = u.raiseFlag .laneDegraded)

/-- No flag set. -/
theorem LanesOnly.noFlag {s t : State} (h : LanesOnly s t) : LanesThenFlag s t := ⟨t, h, .inl rfl⟩

/-- Calibration acted before. -/
theorem LanesThenFlag.after {s t u : State} (h : LanesOnly s t) (k : LanesThenFlag t u) : LanesThenFlag s u := by
  obtain ⟨v, hv, e⟩ := k
  exact ⟨v, h.trans hv, e⟩

/-- An attempt failure touches calibration and the lanes, and may set LANE_DEGRADED (R123). -/
theorem attemptFailure_lanes (s : State) (i : SiteNo) : LanesThenFlag s (s.attemptFailure i) := by
  let s₁ : State := { s with cal := { s.cal with attempts := s.cal.attempts + 1 } }
  have h₁ : LanesOnly s s₁ := .cal s _
  unfold State.attemptFailure
  dsimp only
  split
  · exact (h₁.trans (beginOffline_lanes s₁ i)).noFlag
  · exact ⟨_, (h₁.trans (.onSite s₁ i .degraded { (s₁.site i).flags with laneDegraded := true })).trans (.cal _ _), .inr rfl⟩

/-- A scan's words touch calibration only (R115). -/
theorem scanWords_lanes (s : State) (words : List WordPair) : LanesOnly s (s.scanWords words) := .cal s _

/-- A training failure touches calibration and the lanes (R118, R119). -/
theorem trainingFailure_lanes (s : State) : LanesOnly s s.trainingFailure :=
  (LanesOnly.cal s { s.cal with trainingFailures := satAdd s.cal.trainingFailures 1 }).trans (endRun_lanes _)

/-- An interval expiry touches calibration only (R110). -/
theorem intervalExpiry_lanes (s : State) : LanesOnly s s.intervalExpiry :=
  (LanesOnly.cal s { s.cal with count := s.tables.reload, due := true }).trans (attemptRun_lanes _)

/-- What an act of calibration changes: calibration, lanes and lane phases, with the site flag and the notice of a degraded lane. -/
theorem CalAct.changes {s t : State} (h : CalAct s t) : LanesThenFlag s t := by
  cases h with
  | start =>
    unfold State.calStart
    split
    · exact (LanesOnly.refl s).noFlag
    · exact (LanesOnly.cal s _).noFlag
  | stop =>
    unfold State.calStop
    split
    · exact (LanesOnly.cal s _).noFlag
    · exact (LanesOnly.refl s).noFlag
  | abort =>
    unfold State.calAbort
    split
    · exact (LanesOnly.refl s).noFlag
    · exact (endRun_lanes s).noFlag
  | retry i => exact ((LanesOnly.cal s { s.cal with attempts := 0 }).trans (beginOffline_lanes _ i)).noFlag
  | train i words =>
    have hscan := scanWords_lanes s words
    unfold State.trainWords
    dsimp only
    split
    · exact hscan.noFlag
    · split
      · exact ((hscan.trans (.lane _ i .shadowed)).trans (.cal _ _)).noFlag
      · exact (hscan.trans (trainingFailure_lanes _)).noFlag
  | shadow i words =>
    unfold State.shadowWords
    dsimp only
    split
    · exact (LanesOnly.cal s _).noFlag
    · split
      · exact ((LanesOnly.cal s _).trans (trainingFailure_lanes _)).noFlag
      · exact (LanesOnly.cal s _).noFlag
  | offline i words =>
    have hscan := scanWords_lanes s words
    unfold State.offlineWords
    dsimp only
    split
    · exact hscan.noFlag
    · split
      · exact ((hscan.trans (.lane _ i .soak)).trans (.cal _ _)).noFlag
      · exact .after hscan (attemptFailure_lanes _ i)
  | soak i words =>
    unfold State.soakWords
    dsimp only
    split
    · exact .after (LanesOnly.cal s _) (attemptFailure_lanes _ i)
    · split
      · exact (LanesOnly.cal s _).noFlag
      · exact (LanesOnly.cal s _).noFlag
  | tick =>
    unfold State.tick
    split
    · split
      · exact (intervalExpiry_lanes s).noFlag
      · exact (LanesOnly.cal s _).noFlag
    · exact (LanesOnly.refl s).noFlag
  | expiry => exact (intervalExpiry_lanes s).noFlag
  | attempt => exact (attemptRun_lanes s).noFlag
  | handOver i => exact (beginOffline_lanes s i).noFlag
  | complete i => exact (completeRun_lanes s i).noFlag

/-- At a site an act of calibration changes the lane and the flags only. -/
theorem CalAct.site {s t : State} (h : CalAct s t) (i : SiteNo) :
    t.site i = { s.site i with lane := (t.site i).lane, flags := (t.site i).flags } := by
  obtain ⟨u, hu, rfl | rfl⟩ := h.changes
  · exact hu.site i
  · rw [State.raiseFlag_site]; exact hu.site i

/-- An act of calibration is local. -/
theorem CalAct.toLocal {s t : State} (h : CalAct s t) : Local s t := by
  obtain ⟨u, hu, rfl | rfl⟩ := h.changes
  · exact hu.runs.toLocal
  · exact hu.runs.toLocal.trans (raiseFlag_only _ _).toLocal

/-- What an act of the Link Receiver changes: the link and the outstanding loss, with LINK_RECOVERED (R133 to R136). -/
theorem LinkAct.changes {s t : State} (h : LinkAct s t) :
    ∃ (l : LinkRx) (b : Bool), let u : State := { s with link := l, notice := { s.notice with lossOutstanding := b } }
      t = u ∨ t = u.raiseFlag .linkRecovered := by
  cases h with
  | release => exact ⟨_, s.notice.lossOutstanding, .inl rfl⟩
  | up => exact ⟨_, s.notice.lossOutstanding, .inl rfl⟩
  | down => exact ⟨_, s.notice.lossOutstanding, .inl rfl⟩
  | count => exact ⟨_, s.notice.lossOutstanding, .inl rfl⟩
  | search a =>
    unfold State.seekSlot
    dsimp only
    split
    · split
      · split
        · unfold State.enterLive
          dsimp only
          split
          · exact ⟨_, false, .inr rfl⟩
          · exact ⟨_, s.notice.lossOutstanding, .inl rfl⟩
        · exact ⟨_, s.notice.lossOutstanding, .inl rfl⟩
      · exact ⟨_, s.notice.lossOutstanding, .inl rfl⟩
    · exact ⟨_, s.notice.lossOutstanding, .inl rfl⟩

/-- An act of the Link Receiver leaves the sites as they are. -/
theorem LinkAct.site {s t : State} (h : LinkAct s t) (i : SiteNo) : t.site i = s.site i := by
  obtain ⟨l, b, rfl | rfl⟩ := h.changes
  · rfl
  · rw [State.raiseFlag_site]; rfl

/-- A return slot sends IDLE, or the oldest frame of the FIFO, or the oldest response, or the oldest report whose place is filled (R162). -/
theorem returnSlot_cases (s : State) :
    (∃ f, s.returnSlot = s.transmit f) ∨ s.returnSlot = s ∨
    (∃ f rest, s.ret.fifo = f :: rest ∧ s.returnSlot = { s with
      out := { s.out with up := some f }
      ret := { s.ret with fifo := rest, hofOut := s.ret.hofOut && decide (2 < rest.length), turn := .localSide } }) ∨
    (∃ f rest, s.ret.responses = f :: rest ∧ s.returnSlot = { s with
      out := { s.out with up := some f }, ret := { s.ret with responses := rest, turn := .passThrough } }) ∨
    ∃ f rest, s.ret.responses = [] ∧ s.ret.reports = f :: rest ∧ s.returnSlot = State.fillPlace { s with
      out := { s.out with up := some f }, ret := { s.ret with reports := rest, turn := .passThrough } } := by
  have hpass : s.servePassThrough = s ∨ ∃ f rest, s.ret.fifo = f :: rest := by
    cases h : s.ret.fifo with
    | nil => exact .inl (by simp [State.servePassThrough, h])
    | cons f rest => exact .inr ⟨f, rest, rfl⟩
  have hserve : s.returnSlot = s.servePassThrough ∨ s.returnSlot = s.serveLocal ∨ ∃ f, s.returnSlot = s.transmit f := by
    unfold State.returnSlot
    split
    · exact .inr (.inr ⟨_, rfl⟩)
    · split
      · split
        · exact .inl rfl
        · exact .inr (.inl rfl)
      · exact .inl rfl
      · exact .inr (.inl rfl)
      · exact .inr (.inr ⟨_, rfl⟩)
  obtain h | h | ⟨f, h⟩ := hserve
  · obtain e | ⟨f, rest, hf⟩ := hpass
    · exact .inr (.inl (h.trans e))
    · exact .inr (.inr (.inl ⟨f, rest, hf, h.trans (State.servePassThrough_of_fifo hf)⟩))
  · cases hresp : s.ret.responses with
    | cons f rest => exact .inr (.inr (.inr (.inl ⟨f, rest, rfl, h.trans (State.serveLocal_of_response hresp)⟩)))
    | nil =>
      cases hrep : s.ret.reports with
      | cons f rest => exact .inr (.inr (.inr (.inr ⟨f, rest, rfl, rfl, h.trans (State.serveLocal_of_report hresp hrep)⟩)))
      | nil => exact .inr (.inl (h.trans (by simp [State.serveLocal, hresp, hrep])))
  · exact .inl ⟨f, h⟩

/-- A frame from the part below is counted, discarded, queued where a place is free, or lost with RETURN_OVERRUN (R155 to R157). -/
theorem takeReturn_cases (s : State) (f : Frame) :
    s.takeReturn f = s ∨ (∃ n, s.takeReturn f = { s with ret := { s.ret with checkErrors := n } }) ∨
    (s.ret.fifo.length < 8 ∧ ∃ held, s.takeReturn f = { s with ret := { s.ret with fifo := s.ret.fifo ++ [f], hofOut := held } }) ∨
    s.takeReturn f = s.raiseFlag .returnOverrun := by
  unfold State.takeReturn State.offerPassThrough
  split
  · exact .inr (.inl ⟨_, rfl⟩)
  · split
    · exact .inl rfl
    · split
      · exact .inl rfl
      · split
        next h => exact .inr (.inr (.inl ⟨h, _, rfl⟩))
        next => exact .inr (.inr (.inr rfl))

/-- A return slot leaves the sites as they are. -/
theorem returnSlot_site (s : State) (i : SiteNo) : s.returnSlot.site i = s.site i := by
  obtain ⟨f, h⟩ | h | ⟨f, rest, -, h⟩ | ⟨f, rest, -, h⟩ | ⟨f, rest, -, -, h⟩ := returnSlot_cases s <;> rw [h]
  · rfl
  · rfl
  · rfl
  · exact (fillPlace_only _).site i

/-- A frame from the part below leaves the sites as they are. -/
theorem takeReturn_site (s : State) (f : Frame) (i : SiteNo) : (s.takeReturn f).site i = s.site i := by
  obtain h | ⟨n, h⟩ | ⟨-, held, h⟩ | h := takeReturn_cases s f <;> rw [h]
  · rfl
  · rfl
  · exact State.raiseFlag_site s _ i

section
variable {loads reads live : Prop} {region : Vector Budget 8}

/-- The outcome of an expanded frame moves a site (R20, R21). -/
theorem issuedSite_move (s : State) (c : Cycle) (i : SiteNo) (x : Site) (h : live) :
    SiteMove loads reads live region x (s.issuedSite c i x) := by
  unfold State.issuedSite
  split
  next hc hh =>
    split
    · exact .calm rfl rfl rfl rfl rfl
    · exact .calm rfl rfl rfl rfl rfl
    · split
      next hacc => exact .trans (.push x (s.entryOf c) h hc hh hacc rfl) (.calm rfl rfl rfl rfl rfl)
      next => exact .calm rfl rfl rfl rfl rfl
  · split
    · exact .calm rfl rfl rfl rfl rfl
    · split <;> exact .calm rfl rfl rfl rfl rfl
  · exact .refl x

/-- The outcomes of an expanded frame move each site. -/
theorem issueWhere_move (s : State) (c : Cycle) (p : SiteNo → Bool) (i : SiteNo) (h : live) :
    SiteMove loads reads live region (s.site i) ((s.issueWhere c p).site i) := by
  rw [State.site_issueWhere]
  split
  · exact issuedSite_move s c i _ h
  · exact .refl _

end

/-- A compare at the site up to its drop: counters, ring and, for a counted fail, the record of its region (R50, R52, R68). -/
def Site.marked (x : Site) (e : Entry) (data : Half) : Site :=
  if failBitsOf e data ≠ 0 ∧ e.counted = true then (x.compared e data).takeFail e.region (e.row, e.col)
  else x.compared e data

/-- Whether a compare at the site drops it (R32, R78). -/
def Site.fallsTo (x : Site) (e : Entry) (data : Half) : Bool :=
  failBitsOf e data != 0 && e.counted && (x.compared e data).dropsOn e

/-- A whole compare is its marks and the drop it may make. -/
theorem Site.afterCompare_eq (x : Site) (e : Entry) (data : Half) (running : Bool) :
    x.afterCompare e data running =
      if x.fallsTo e data then (x.marked e data).droppedBy .unrepairable running else x.marked e data := by
  unfold Site.afterCompare Site.marked Site.fallsTo Site.analysed
  by_cases h : failBitsOf e data ≠ 0 ∧ e.counted = true
  · have hbits : (failBitsOf e data != 0) = true := bne_iff_ne.2 h.1
    have hall : (failBitsOf e data != 0 && e.counted && (x.compared e data).dropsOn e) = (x.compared e data).dropsOn e := by
      rw [hbits, h.2]; rfl
    rw [if_pos h, if_pos h, hall]
  · have hno : ¬((failBitsOf e data != 0 && e.counted && (x.compared e data).dropsOn e) = true) := fun hf => by
      simp only [Bool.and_eq_true, bne_iff_ne] at hf
      exact h hf.1
    rw [if_neg h, if_neg h, if_neg hno]

/-- The marks of a compare leave condition, hold and queue. -/
theorem Site.marked_keeps (x : Site) (e : Entry) (data : Half) :
    (x.marked e data).condition = x.condition ∧ (x.marked e data).hold = x.hold ∧ (x.marked e data).queue = x.queue := by
  unfold Site.marked
  split <;> exact ⟨rfl, rfl, rfl⟩

/-- The marks of a compare in ring and records depend on ring and records only. -/
theorem Site.marked_congr {x y : Site} (hring : y.ring = x.ring) (hrec : y.records = x.records) (e : Entry) (data : Half) :
    (y.marked e data).ring = (x.marked e data).ring ∧ (y.marked e data).records = (x.marked e data).records := by
  unfold Site.marked Site.compared Site.takeFail
  rw [hring, hrec]
  split <;> exact ⟨rfl, rfl⟩

section
variable {loads reads live : Prop} {region : Vector Budget 8}

/-- The marks of a compare move a site where a word may be compared (R50, R52, R68). -/
theorem Site.marked_move (x : Site) (e : Entry) (data : Half) (h : reads) :
    SiteMove loads reads live region x (x.marked e data) := by
  unfold Site.marked
  split
  · exact (Site.compared_move x e data).trans (.fail _ _ _ h)
  · exact Site.compared_move x e data

/-- A compare after its removals, with the report that follows, moves a site (R45, R50, R55). -/
theorem Site.afterCompare_move (x : Site) {older newer : List Entry} {n : Nat} (e : Entry) (data : Half) (running : Bool)
    (hn : newer = x.queue.drop n) (h : reads) :
    SiteMove loads reads live region x
      (Site.grantedIfEmpty (Site.afterCompare { x.losing older with queue := newer } e data running)) := by
  have hlose : ({ x.losing older with queue := newer } : Site).ring = x.ring ∧
      ({ x.losing older with queue := newer } : Site).records = x.records ∧
      ({ x.losing older with queue := newer } : Site).condition = x.condition ∧
      ({ x.losing older with queue := newer } : Site).hold = x.hold := by
    rw [losing_spec]; exact ⟨rfl, rfl, rfl, rfl⟩
  have hqueue : ({ x.losing older with queue := newer } : Site).queue = newer := rfl
  generalize ({ x.losing older with queue := newer } : Site) = y at hlose hqueue ⊢
  obtain ⟨hring, hrec, hcond, hhold⟩ := hlose
  obtain ⟨hmring, hmrec⟩ := Site.marked_congr hring hrec e data
  obtain ⟨hxc, hxh, hxq⟩ := x.marked_keeps e data
  obtain ⟨hyc, hyh, hyq⟩ := y.marked_keeps e data
  refine (Site.marked_move x e data h).trans ?_
  generalize x.marked e data = z at hmring hmrec hxc hxh hxq ⊢
  rw [Site.afterCompare_eq]
  generalize y.marked e data = w at hmring hmrec hyc hyh hyq ⊢
  have hwc : w.condition = z.condition := by rw [hyc, hcond, hxc]
  have hwh : w.hold = z.hold := by rw [hyh, hhold, hxh]
  have hwq : w.queue = z.queue.drop n := by rw [hyq, hqueue, hn, hxq]
  split
  · have hkept : (w.droppedBy .unrepairable running).grantedIfEmpty = w.droppedBy .unrepairable running := by
      unfold Site.grantedIfEmpty
      rw [if_neg]
      rintro ⟨hp, -⟩
      simp only [Site.droppedBy] at hp
      split at hp
      · exact nomatch hp
      next hne => exact hne hp
    rw [hkept]
    exact .trans (.leave z (.dropped .unrepairable) nofun)
      (.calm rfl (by simp only [Site.droppedBy, hwh]) rfl hmring hmrec)
  · refine .trans (.remove z n) ?_
    unfold Site.grantedIfEmpty
    rw [hwh, hwq]
    dsimp only
    split
    · exact .calm hwc rfl rfl hmring hmrec
    · exact .calm hwc hwh hwq hmring hmrec

end

/-- A stray at the site (R47). -/
def Site.strayed (x : Site) : Site := { x with counts := { x.counts with strays := satAdd x.counts.strays 1 } }

/-- A site after a stray at site i. -/
theorem State.site_stray (s : State) (i j : SiteNo) :
    (s.stray i).site j = if j = i then (s.site j).strayed else s.site j := s.site_onSite i j Site.strayed

/-- A site after a compare with what follows it at site i, in every order (R45, R50, R55, R100). -/
theorem State.site_compareRemoval (s : State) (i j : SiteNo) (lost : List Entry) (shows : Bool) (e : Entry) (data : Half) :
    (s.afterRemoval i lost shows fun t => t.compareEntry i e data).site j =
      if j = i then ((s.site j).afterCompare e data (s.runsAt i)).grantedIfEmpty else s.site j :=
  State.site_afterRemoval (f := fun x => x.afterCompare e data (s.runsAt i)) (fun t k ht => by
    have hruns : t.runsAt i = s.runsAt i := by rw [State.runsAt, ht, State.runsAt]
    rw [State.site_compareEntry, hruns]) j

/-- A site after a stray with what follows it at site i, in every order (R47, R55, R100). -/
theorem State.site_strayRemoval (s : State) (i j : SiteNo) (lost : List Entry) (shows : Bool) :
    (s.afterRemoval i lost shows fun t => t.stray i).site j =
      if j = i then (s.site j).strayed.grantedIfEmpty else s.site j :=
  State.site_afterRemoval (f := Site.strayed) (fun t k _ => t.site_stray i k) j

/-- A READ_DATA word leaves every other site as it is (R45). -/
theorem takeReadData_site_ne (s : State) {i j : SiteNo} (tag data : Half) (hj : j ≠ i) :
    (s.takeReadData i tag data).site j = s.site j := by
  have hpop (older newer : List Entry) : (s.popped i older newer).site j = s.site j := State.site_onSite_ne s _ hj
  obtain e | ⟨older, newer, x, -, e⟩ | ⟨older, newer, -, -, e⟩ := s.takeReadData_cases i tag data <;> rw [e]
  · rw [State.site_stray, if_neg hj]
  · rw [State.site_compareRemoval, if_neg hj, hpop]
  · rw [State.site_strayRemoval, if_neg hj, hpop]

/-- A READ_DATA word moves its own site, and no other; it compares at its own site only (R45). -/
theorem takeReadData_move {loads reads live : Prop} {region : Vector Budget 8} (s : State) (i j : SiteNo) (tag data : Half)
    (h : j = i → reads) : SiteMove loads reads live region (s.site j) ((s.takeReadData i tag data).site j) := by
  by_cases hj : j = i
  · subst hj
    have hpop (older newer : List Entry) :
        (s.popped j older newer).site j = { (s.site j).losing older with queue := newer } := State.site_onSite_self s j _
    have htail {older newer : List Entry} (hq : (s.site j).queue = older ++ newer) :
        newer = (s.site j).queue.drop older.length := by rw [hq, List.drop_left]
    obtain e | ⟨older, newer, x, hq, e⟩ | ⟨older, newer, hq, -, e⟩ := s.takeReadData_cases j tag data <;> rw [e]
    · rw [State.site_stray, if_pos rfl]
      exact .calm rfl rfl rfl rfl rfl
    · rw [State.site_compareRemoval, if_pos rfl, hpop]
      have hq' : (s.site j).queue = (older ++ [x]) ++ newer := by rw [hq, List.append_assoc]; rfl
      exact Site.afterCompare_move _ x data _ (htail hq') (h rfl)
    · rw [State.site_strayRemoval, if_pos rfl, hpop]
      refine .trans (.remove (s.site j) older.length) ?_
      rw [← htail hq, losing_spec]
      unfold Site.grantedIfEmpty Site.strayed
      dsimp only
      split <;> exact .calm rfl rfl rfl rfl rfl
  · rw [takeReadData_site_ne s tag data hj]
    exact .refl _

/-- What sites and slots do moves each site. -/
theorem SiteAct.move {loads : Prop} {reads : SiteNo → Prop} {s t : State} (h : SiteAct reads s t) (i : SiteNo) :
    SiteMove loads (reads i) (s.link.state = .live) s.tables.region (s.site i) (t.site i) := by
  cases h with
  | age => rw [State.ageAll_site]; exact .age _
  | expireAll => rw [State.site_expireAll]; exact Site.expired_move _ _
  | expire j =>
    rw [State.settleDrain_site, State.site_expireSite]
    split
    · exact Site.expired_move _ _
    · exact .refl _
  | issue c p hl => exact issueWhere_move s c p i hl
  | between c p hl =>
    rw [State.settleDrain_site]
    refine .trans (y := s.expireSites.site i) ?_ (issueWhere_move _ c p i hl)
    rw [State.site_expireSites]
    exact Site.expired_move _ _
  | read j tag data hr => exact takeReadData_move s j i tag data fun e => e ▸ hr
  | status j bits =>
    have htaken (x : Site) : SiteMove loads (reads i) (s.link.state = .live) s.tables.region x (x.headTaken bits) :=
      .calm rfl rfl rfl rfl rfl
    rw [State.site_takeStatus]
    split
    · split
      · exact (htaken _).trans (Site.headFaulted_move _ _)
      · exact htaken _
    · exact .refl _
  | setSites enable drop =>
    rw [State.site_applySites, State.site_departed]
    dsimp only
    split
    next hl =>
      simp only [State.leaves, Bool.and_eq_true, beq_iff_eq, Bool.not_eq_true'] at hl
      rw [hl.2]
      exact Site.setSite_leave (s.site i) _ _ _ hl.1
    next hl =>
      refine Site.setSite_move _ _ _ _ fun hc => hl ?_
      simp [State.leaves, hc.1, hc.2]
  | request j =>
    unfold State.holdRequest
    split
    next hfree =>
      split
      next hg =>
        rw [site_grant]
        split
        next hij =>
          subst hij
          exact .trans (.grant (s.site i) hg.symm) (.calm rfl rfl rfl rfl rfl)
        next => exact .refl _
      next hg =>
        push Not at hg
        rw [State.site_onSite]
        split
        next hij => subst hij; exact .request _ hg.2 hg.1
        next => exact .refl _
    next => exact .refl _
  | release j =>
    rw [State.holdRelease, State.site_onSite]
    split
    · exact .release _
    · exact .refl _
  | settle => rw [State.settleDrain_site]; exact .refl _
  | raise => rw [State.raiseFlag_site]; exact .refl _

/-- A site after OPEN PASS (R91). -/
theorem State.site_openPass (s : State) (n : Byte) (i : SiteNo) : (s.openPass n).site i = (s.site i).openPass s.tables.region :=
  State.site_onSites s _ i

/-- OPEN PASS moves a site: records loaded, the ring cleared, a drop restored (R37, R80, R91). -/
theorem Site.openPass_move {reads live : Prop} (region : Vector Budget 8) (x : Site) :
    SiteMove True reads live region x (x.openPass region) := by
  have hload : SiteMove True reads live region x _ := .load x trivial
  by_cases hc : x.condition = .enabled
  · exact hload.trans (.calm (by simp [Site.openPass, Condition.restored, hc]) rfl rfl rfl rfl)
  · exact hload.trans (.trans (.recondition _ (x.condition.restored (headFault x.current)) hc) (.calm rfl rfl rfl rfl rfl))

/-- A site after a chain reset (R42, R61, R87). -/
theorem State.site_chainReset (s : State) (i : SiteNo) :
    s.chainReset.site i = { current := (s.site i).current, command := .park } := by
  have hpark : (forSites (fun i t => t.parkPort i) s).site i = { s.site i with command := .park } :=
    forSites_site (f := fun _ x => { x with command := SiteCommand.park }) (keep := fun _ => True) (fun _ _ _ => trivial)
      (fun i t k _ => site_parkPort t i k) trivial i
  show (mapVector Site.chainReset (forSites (fun i t => t.parkPort i) s).sites).get i = _
  rw [mapVector_get]
  show Site.chainReset ((forSites (fun i t => t.parkPort i) s).site i) = _
  rw [hpark]
  rfl

/-- A site after a chain reset from the line (R150). -/
theorem State.site_lineReset (s : State) (i : SiteNo) :
    s.lineReset.site i = { current := (s.site i).current, command := .park } := by
  rw [State.site_congr (s := s.chainReset) (t := s.lineReset) (by simp only [State.lineReset]), State.site_chainReset]

/-- A site after a chain reset by RESET PART (R151). -/
theorem State.site_partReset (s : State) (i : SiteNo) :
    s.partReset.site i = { current := (s.site i).current, command := .park } := by
  rw [State.site_congr (s := s.chainReset) (t := s.partReset) (by simp only [State.partReset]), State.site_chainReset]

/-- A site after power-on reset (R42, R61, R87). -/
theorem State.site_powerOn (s : State) (i : SiteNo) : s.powerOn.site i = {} := by
  simp [State.powerOn, State.reset, State.site, Vector.get]

/-- A site that a reset leaves with its status copy and the command it carries is a reset site. -/
theorem SiteMove.ofReset {loads reads live : Prop} {region : Vector Budget 8} (x : Site) (current : Byte) (command : SiteCommand)
    (h : loads) : SiteMove loads reads live region x { current := current, command := command } :=
  .reset x _ h rfl rfl rfl fun g => by simp [Vector.get]

/-- Every act moves each site. -/
theorem Act.move {loads : Prop} {reads : SiteNo → Prop} {s t : State} (h : Act loads reads s t) (i : SiteNo) :
    SiteMove loads (reads i) (s.link.state = .live) s.tables.region (s.site i) (t.site i) := by
  cases h with
  | calm h => rw [h.site i]; exact .calm rfl rfl rfl rfl rfl
  | site h => exact h.move i
  | cal h => rw [h.site i]; exact .calm rfl rfl rfl rfl rfl
  | link h => rw [h.site i]; exact .refl _
  | loss l => rw [State.site_linkLoss]; exact lostSite_move _ _
  | powerOn hl => rw [State.site_powerOn]; exact .ofReset _ _ _ hl
  | lineReset hl hc =>
    rw [State.site_lineReset]
    exact .ofReset _ _ _ hl
  | partReset hl =>
    rw [State.site_partReset]
    exact .ofReset _ _ _ hl
  | write id index b c hw => rw [writeEntry_tables s t id index b c hw]; exact .refl _
  | openPass n hl =>
    rw [State.site_openPass]
    have hloads : loads = True := eq_true hl
    rw [hloads]
    exact Site.openPass_move _ _
  | closePass f => rw [State.settleDrain_site]; exact .refl _
  | respond f => exact .refl _
  | takeReturn f => rw [takeReturn_site]; exact .refl _
  | returnSlot => rw [returnSlot_site]; exact .refl _
  | summary => rw [(enqueueSummary_only s).site]; exact .refl _
  | notify => rw [(admitNotice_only s).site]; exact .refl _

end Sys2Proof.Machine
end

section
/-! PROOFS. The tables through every act: all but WRITE TABLE and power-on reset leave everything but lane phases, and those two keep the ranges (sections 1.1, 1.2 and 1.9). -/

namespace Sys2Proof.Machine

/-- The ranges of the tables, read apart (R1, R5, R6, R7, R62). -/
theorem Tables.inRange_iff (t : Tables) : t.inRange = true ↔
    (∀ i, 4 ≤ (t.trim.get i).latency ∧ (t.trim.get i).latency ≤ 63) ∧
    (∀ g, (t.region.get g).sr ≤ 4 ∧ (t.region.get g).sc ≤ 4) ∧
    (1 ≤ t.orderLength ∧ t.orderLength ≤ 16) ∧ 1 ≤ t.reload.toNat ∧ 256 ≤ t.soak.toNat ∧ t.soak.toNat ≤ 4096 := by
  simp only [Tables.inRange, Bool.and_eq_true, all_toList_iff, decide_eq_true_eq, and_assoc]

/-- A number brought to the nearest limit (R9). -/
theorem clampNat_eq {low high : Nat} (h : low ≤ high) (x : Nat) : clampNat low high x = max low (min high x) := by
  unfold clampNat
  split
  · omega
  · split <;> omega

/-- A TRIM entry accepted keeps the tables in range (R5). -/
theorem writeTrim_inRange {s t : State} {index : Nat} {b : List Byte} {c : Bool} (h : s.writeTrim index b = .ok (t, c))
    (hs : s.tables.inRange = true) : t.tables.inRange = true := by
  have hput (x : Trim) (hx : 4 ≤ x.latency ∧ x.latency ≤ 63) :
      Tables.inRange { s.tables with trim := s.tables.trim.set (Fin.ofNat 16 index : SiteNo) x } = true := by
    rw [Tables.inRange_iff] at hs ⊢
    obtain ⟨htrim, hrest⟩ := hs
    refine ⟨fun j => ?_, hrest⟩
    rw [vector_get_set]
    split
    · exact hx
    · exact htrim j
  have hlatency : 4 ≤ clampNat 4 63 (b.getD 2 0).toNat ∧ clampNat 4 63 (b.getD 2 0).toNat ≤ 63 := by
    rw [clampNat_eq (by decide)]; omega
  simp only [State.writeTrim] at h
  split at h
  · split at h
    · obtain ⟨rfl, -⟩ := Prod.mk.inj (Except.ok.inj h)
      exact hput _ hlatency
    · exact nomatch h
  · obtain ⟨rfl, -⟩ := Prod.mk.inj (Except.ok.inj h)
    exact hput _ hlatency
  · exact nomatch h

/-- A table entry accepted keeps the tables in range (R9). -/
theorem writeEntry_inRange {s t : State} {id : TableId} {index : Nat} {b : List Byte} {c : Bool}
    (h : s.writeEntry id index b = .ok (t, c)) (hs : s.tables.inRange = true) : t.tables.inRange = true := by
  have hranges := (Tables.inRange_iff _).1 hs
  obtain ⟨htrim, hregion, horder, hreload, hsoak⟩ := hranges
  unfold State.writeEntry at h
  split at h
  · exact nomatch h
  · cases id with
    | timing =>
      simp only [State.writeTiming] at h
      split at h
      · exact nomatch h
      · obtain ⟨rfl, -⟩ := Prod.mk.inj (Except.ok.inj h); exact hs
    | scramble =>
      simp only [State.writeScramble] at h
      split at h
      · exact nomatch h
      · obtain ⟨rfl, -⟩ := Prod.mk.inj (Except.ok.inj h); exact hs
    | selector =>
      simp only [State.writeSelector] at h
      split at h
      · exact nomatch h
      · obtain ⟨rfl, -⟩ := Prod.mk.inj (Except.ok.inj h); exact hs
    | topology => obtain ⟨rfl, -⟩ := Prod.mk.inj (Except.ok.inj h); exact hs
    | region =>
      obtain ⟨rfl, -⟩ := Prod.mk.inj (Except.ok.inj h)
      refine (Tables.inRange_iff _).2 ⟨htrim, fun g => ?_, horder, hreload, hsoak⟩
      rw [vector_get_set]
      split
      · dsimp only
        rw [clampNat_eq (by decide), clampNat_eq (by decide)]
        omega
      · exact hregion g
    | trim => exact writeTrim_inRange h hs
    | calOrder =>
      simp only [State.writeOrder] at h
      split at h
      · obtain ⟨rfl, -⟩ := Prod.mk.inj (Except.ok.inj h)
        refine (Tables.inRange_iff _).2 ⟨htrim, hregion, ?_, hreload, hsoak⟩
        dsimp only
        rw [clampNat_eq (by decide)]
        omega
      · split at h
        · exact nomatch h
        · obtain ⟨rfl, -⟩ := Prod.mk.inj (Except.ok.inj h); exact hs
    | calParam =>
      obtain ⟨rfl, -⟩ := Prod.mk.inj (Except.ok.inj h)
      have hfield (x : Nat) (low high : Nat) (hl : low ≤ high) (hh : high < 65536) :
          low ≤ (BitVec.ofNat 16 (clampNat low high x)).toNat ∧ (BitVec.ofNat 16 (clampNat low high x)).toNat ≤ high := by
        rw [clampNat_eq hl, BitVec.toNat_ofNat, Nat.mod_eq_of_lt (by omega)]
        omega
      exact (Tables.inRange_iff _).2 ⟨htrim, hregion, horder, (hfield _ 1 65535 (by decide) (by decide)).1,
        hfield _ 256 4096 (by decide) (by decide)⟩
    | factoryPhase => exact nomatch h

/-- Every table entry accepted leaves the factory phases alone (section 1.1). -/
theorem writeEntry_factory {s t : State} {id : TableId} {index : Nat} {b : List Byte} {c : Bool}
    (h : s.writeEntry id index b = .ok (t, c)) : t.tables.factory = s.tables.factory := by
  unfold State.writeEntry at h
  split at h
  · exact nomatch h
  · cases id <;>
      simp only [State.writeTiming, State.writeScramble, State.writeSelector, State.writeTopology, State.writeRegion,
        State.writeTrim, State.writeOrder, State.writeParam] at h <;>
      (repeat' split at h) <;>
      simp only [Except.ok.injEq, Prod.mk.injEq, reduceCtorEq] at h <;>
      (obtain ⟨rfl, -⟩ := h; rfl)

/-- Tables that differ in lane phases only. -/
structure PhasesOnly (a b : Tables) : Prop where
  same : b = { a with trim := b.trim }
  trim : ∀ i, b.trim.get i = { a.trim.get i with phase := (b.trim.get i).phase }

/-- The same tables differ in nothing. -/
theorem PhasesOnly.of_eq {a b : Tables} (h : b = a) : PhasesOnly a b := by subst h; exact ⟨rfl, fun _ => rfl⟩

/-- What is local changes lane phases only. -/
theorem Local.phases {s t : State} (h : Local s t) : PhasesOnly s.tables t.tables := ⟨h.tables, h.trim⟩

/-- Lane phases do not matter to the ranges. -/
theorem PhasesOnly.inRange {a b : Tables} (h : PhasesOnly a b) (ha : a.inRange = true) : b.inRange = true := by
  rw [Tables.inRange_iff] at ha ⊢
  obtain ⟨htrim, hrest⟩ := ha
  refine ⟨fun i => ?_, ?_⟩
  · rw [h.trim i]; exact htrim i
  · rw [h.same]; exact hrest

/-- The outcome of an expanded frame leaves the lane, and the counted entries unless the pass is OPEN (R20, R21). -/
theorem State.issuedSite_keeps (s : State) (c : Cycle) (j : SiteNo) (x : Site) : (s.issuedSite c j x).lane = x.lane ∧
    (s.pass.state ≠ .opened → countedIn (s.issuedSite c j x).queue = countedIn x.queue) := by
  unfold State.issuedSite
  split
  · split
    · exact ⟨rfl, fun _ => rfl⟩
    · exact ⟨rfl, fun _ => rfl⟩
    · split
      · refine ⟨rfl, fun hp => ?_⟩
        simp [Site.push, State.entryOf, countedIn, hp]
      · exact ⟨rfl, fun _ => rfl⟩
  · split
    · exact ⟨rfl, fun _ => rfl⟩
    · split <;> exact ⟨rfl, fun _ => rfl⟩
  · exact ⟨rfl, fun _ => rfl⟩

/-- An expanded frame pushes no counted entry unless the pass is OPEN (R21). -/
theorem issueWhere_counted {s : State} (c : Cycle) (p : SiteNo → Bool) (h : s.pass.state ≠ .opened) (j : SiteNo) :
    countedIn ((s.issueWhere c p).site j).queue = countedIn (s.site j).queue := by
  rw [State.site_issueWhere]
  split
  · exact (s.issuedSite_keeps c j _).2 h
  · rfl

/-- Sites and slots act locally. -/
theorem SiteAct.event {reads : SiteNo → Prop} {s t : State} (h : SiteAct reads s t) : Event s t := by
  have hissue (u : State) (c : Cycle) (p : SiteNo → Bool) : Event u (u.issueWhere c p) :=
    .sites (issueWhere_only u c p) (fun j => by
      rw [State.site_issueWhere]
      split
      · exact (u.issuedSite_keeps c j _).1
      · rfl) fun hp j => (issueWhere_counted c p hp j).le
  cases h with
  | age => exact Event.ofSites (Eq.refl _) fun j => by rw [State.ageAll_site]; exact ⟨rfl, (countedIn_ageQueue _).le⟩
  | expireAll => exact expireAll_event s
  | expire i => exact (expireSite_event s i).trans (.settle _)
  | issue c p => exact hissue s c p
  | between c p => exact ((expireSites_event s).trans (hissue _ c p)).trans (.settle _)
  | read i tag data => exact takeReadData_event s i tag data
  | status i bits => exact takeStatus_event s i bits
  | setSites enable drop => exact applySites_event s enable drop
  | request i =>
    unfold State.holdRequest
    split
    · split
      · exact grant_event s i
      · exact Event.onSite s i rfl (Nat.le_refl _)
    · exact .rfl s
  | release i => exact Event.onSite s i rfl (Nat.le_refl _)
  | settle => exact .settle s
  | raise f => exact .raise s f

/-- What an act does to the tables: lane phases, or a table entry, or power-on reset. -/
theorem Act.tables {loads : Prop} {reads : SiteNo → Prop} {s t : State} (h : Act loads reads s t) :
    PhasesOnly s.tables t.tables ∨ (∃ id index b c, s.writeEntry id index b = .ok (t, c)) ∨ t = s.powerOn := by
  cases h with
  | calm h => exact .inl (.of_eq h.tables)
  | site h => exact .inl h.event.toLocal.phases
  | cal h => exact .inl h.toLocal.phases
  | link h =>
    obtain ⟨l, b, rfl | rfl⟩ := h.changes
    · exact .inl (.of_eq rfl)
    · exact .inl (.of_eq (raiseFlag_only _ _).tables)
  | loss l =>
    obtain ⟨u, v, hu, hv, hw⟩ := State.linkLoss_changes { s with link := l }
    exact .inl (.of_eq (by rw [hw.tables, hv.tables, hu.tables]))
  | powerOn => exact .inr (.inr rfl)
  | lineReset =>
    exact .inl (.of_eq (by simp only [State.lineReset, State.chainReset_tables]))
  | partReset => exact .inl (.of_eq (by simp only [State.partReset, State.chainReset_tables]))
  | write id index b c hw => exact .inr (.inl ⟨id, index, b, c, hw⟩)
  | openPass n => exact .inl (.of_eq rfl)
  | closePass f => exact .inl (.of_eq (settleDrain_only _).tables)
  | respond f => exact .inl (.of_eq rfl)
  | takeReturn f =>
    refine .inl (.of_eq ?_)
    obtain e | ⟨n, e⟩ | ⟨-, held, e⟩ | e := takeReturn_cases s f <;> rw [e]
    exact (raiseFlag_only _ _).tables
  | returnSlot =>
    refine .inl (.of_eq ?_)
    obtain ⟨f, e⟩ | e | ⟨f, rest, -, e⟩ | ⟨f, rest, -, e⟩ | ⟨f, rest, -, -, e⟩ := returnSlot_cases s <;> rw [e]
    · rfl
    · exact (fillPlace_only _).tables
  | summary => exact .inl (.of_eq (enqueueSummary_only s).tables)
  | notify => exact .inl (.of_eq (admitNotice_only s).tables)

/-- The tables of power-on reset are in range (section 1.9). -/
theorem Tables.powerOn_inRange (factory : Vector Phase 17) : (Tables.powerOn factory).inRange = true := by
  have hcal : (1 ≤ (16 : Nat) ∧ (16 : Nat) ≤ 16) ∧ 1 ≤ (1000 : Half).toNat ∧ 256 ≤ (1024 : Half).toNat ∧
      (1024 : Half).toNat ≤ 4096 := by decide
  refine (Tables.inRange_iff _).2 ⟨fun i => ?_, fun g => ?_, hcal⟩
  · simp [Tables.powerOn, Vector.get_ofFn]
  · simp [Tables.powerOn, Vector.get]

/-- Every act keeps the tables in range (R1, R5, R6, R7, R62). -/
theorem Act.inRange {loads : Prop} {reads : SiteNo → Prop} {s t : State} (h : Act loads reads s t)
    (hs : s.tablesInRange = true) : t.tablesInRange = true := by
  obtain h | ⟨id, index, b, c, h⟩ | rfl := h.tables
  · exact h.inRange hs
  · exact writeEntry_inRange h hs
  · exact Tables.powerOn_inRange _

/-- What a loss of the link leaves of the command queue and the revision. -/
theorem linkLoss_identity (s : State) : s.linkLoss.pending = s.pending ∧ s.linkLoss.revision = s.revision := by
  obtain ⟨u, v, hu, hv, hw⟩ := State.linkLoss_changes s
  exact ⟨by rw [hw.pending, hv.pending, hu.pending], by rw [hw.revision, hv.revision, hu.revision]⟩

/-- The command queue after a chain reset. -/
@[simp] theorem State.chainReset_pending (s : State) : s.chainReset.pending = s.pending := by rw [s.chainReset_eq]

/-- Every act keeps the command queue and the revision (R185). -/
theorem Act.queue_and_revision {loads : Prop} {reads : SiteNo → Prop} {s t : State} (h : Act loads reads s t) :
    t.pending = s.pending ∧ t.revision = s.revision := by
  have hreports {s t : State} (h : ReportsOnly s t) : t.pending = s.pending ∧ t.revision = s.revision := ⟨h.pending, h.revision⟩
  have hlocal {s t : State} (h : Local s t) : t.pending = s.pending ∧ t.revision = s.revision := ⟨h.pending, h.revision⟩
  cases h with
  | calm h => exact ⟨h.pending, h.revision⟩
  | site h => exact hlocal h.event.toLocal
  | cal h => exact hlocal h.toLocal
  | link h =>
    obtain ⟨l, b, rfl | rfl⟩ := h.changes
    · exact ⟨rfl, rfl⟩
    · have e := raiseFlag_only { s with link := l, notice := { s.notice with lossOutstanding := b } } .linkRecovered
      exact ⟨e.pending, e.revision⟩
  | loss l => exact linkLoss_identity _
  | powerOn => exact ⟨rfl, rfl⟩
  | lineReset =>
    exact ⟨by simp only [State.lineReset, State.chainReset_pending], by simp only [State.lineReset, State.chainReset_revision]⟩
  | partReset =>
    exact ⟨by simp only [State.partReset, State.chainReset_pending], by simp only [State.partReset, State.chainReset_revision]⟩
  | write id index b c hw => rw [writeEntry_tables s t id index b c hw]; exact ⟨rfl, rfl⟩
  | openPass n => exact ⟨rfl, rfl⟩
  | closePass f => exact ⟨(settleDrain_only _).pending, (settleDrain_only _).revision⟩
  | respond f => exact ⟨rfl, rfl⟩
  | takeReturn f =>
    obtain e | ⟨n, e⟩ | ⟨-, held, e⟩ | e := takeReturn_cases s f <;> rw [e]
    · exact ⟨rfl, rfl⟩
    · exact ⟨rfl, rfl⟩
    · exact ⟨rfl, rfl⟩
    · exact hreports (raiseFlag_only _ _)
  | returnSlot =>
    obtain ⟨f, e⟩ | e | ⟨f, rest, -, e⟩ | ⟨f, rest, -, e⟩ | ⟨f, rest, -, -, e⟩ := returnSlot_cases s <;> rw [e]
    · exact ⟨rfl, rfl⟩
    · exact ⟨rfl, rfl⟩
    · exact ⟨rfl, rfl⟩
    · exact ⟨rfl, rfl⟩
    · exact ⟨(fillPlace_only _).pending, (fillPlace_only _).revision⟩
  | summary => exact hreports (enqueueSummary_only s)
  | notify => exact hreports (admitNotice_only s)

/-- Every act keeps the command queue, the revision and the factory phases (R185, section 1.1). -/
theorem Act.identity {loads : Prop} {reads : SiteNo → Prop} {s t : State} (h : Act loads reads s t) :
    t.pending = s.pending ∧ t.revision = s.revision ∧ t.tables.factory = s.tables.factory := by
  obtain ⟨hqueue, hrevision⟩ := h.queue_and_revision
  refine ⟨hqueue, hrevision, ?_⟩
  obtain h | ⟨id, index, b, c, h⟩ | rfl := h.tables
  · rw [h.same]
  · exact writeEntry_factory h
  · rfl

/-- Every command completes: the model has no stop. -/
theorem exec_completes (c : Instr) (s : State) : ∃ t, exec c s = .next t := by
  cases c <;> exact ⟨_, rfl⟩

/-- What every act keeps, and no change of the command queue alters, every step keeps. -/
theorem step_keeps {P : State → Prop} (h : ∀ loads reads s t, Act loads reads s t → P s → P t)
    (hqueue : ∀ (s : State) l, P s → P { s with pending := l }) {s t : State} (hst : step s = .next t) (hs : P s) : P t := by
  unfold step at hst
  split at hst
  · obtain rfl := Host.Outcome.next.inj hst; exact hs
  · exact Acts.keeps (h _ _) (exec_acts hst) (hqueue s _ hs)

/-- Settles O2, by the acts of a command. -/
theorem everyCommandCompletesAndKeepsIdentity : Obligations.EveryCommandCompletesAndKeepsIdentity := by
  unfold Obligations.EveryCommandCompletesAndKeepsIdentity
  intro c s
  obtain ⟨t, ht⟩ := exec_completes c s
  refine ⟨t, ht, Acts.keeps (P := fun u => u.pending = s.pending ∧ u.revision = s.revision ∧
    u.tables.factory = s.tables.factory) (fun u v huv hu => ?_) (exec_acts ht) ⟨rfl, rfl, rfl⟩⟩
  obtain ⟨hp, hr, hf⟩ := huv.identity
  obtain ⟨hp', hr', hf'⟩ := hu
  exact ⟨hp.trans hp', hr.trans hr', hf.trans hf'⟩

/-- Settles O59, by the moves of a site: none of the acts left loads records or takes a fail there. -/
theorem onlyComparesLoadsAndResetsChangeRecords : Obligations.OnlyComparesLoadsAndResetsChangeRecords := by
  unfold Obligations.OnlyComparesLoadsAndResetsChangeRecords
  intro c s i hc
  obtain ⟨t, ht⟩ := exec_completes c s
  have hloads : ¬loadsRecords c := by
    rintro (rfl | rfl | ⟨k, code, p, hcode, hk⟩)
    · exact hc
    · exact hc
    · cases c <;> simp only [controlOf, reduceCtorEq, Option.some.injEq, Prod.mk.injEq] at hcode <;>
        obtain ⟨-, rfl, -⟩ := hcode <;> revert hc hk <;> simp
  have hreads : ¬readsAt c i := by
    rintro ⟨tag, data, rfl⟩
    exact hc rfl
  exact ⟨t, ht, Acts.keeps (P := fun u => (u.site i).records = (s.site i).records)
    (fun u v huv hu => ((huv.move i).records hloads hreads).trans hu) (exec_acts ht) rfl⟩

/-- Settles O1, by the definition of a step. -/
theorem stepRunsTheFrontCommand : Obligations.StepRunsTheFrontCommand := by
  unfold Obligations.StepRunsTheFrontCommand
  constructor
  · intro c rest s h
    simp only [step, h]
  · intro s h
    simp only [step, h]

/-- Settles O3, by evaluation of the checks on the reset state. -/
theorem resetStateIsSound : Obligations.ResetStateIsSound := by
  unfold Obligations.ResetStateIsSound
  decide +kernel

end Sys2Proof.Machine
end

section
/-! PROOFS. The invariants of sites, tables and buffers: every act keeps them, so every step does (O54, O55, O56). -/

namespace Sys2Proof.Machine

/-- The report queue holds at most 32 records and the pending list no flag twice (R156, R168). -/
def State.ReportsFit (s : State) : Prop := s.ret.reports.length ≤ 32 ∧ s.notice.waiting.Nodup

/-- Room in the report queue. -/
theorem State.reportRoom_iff (s : State) : s.reportRoom = true ↔ s.ret.reports.length < 32 := by
  simp [State.reportRoom]

/-- Room in the response queue. -/
theorem State.responseRoom_iff (s : State) : s.responseRoom = true ↔ s.ret.responses.length < 4 := by
  simp [State.responseRoom]

/-- A report that finds room leaves the report queue within its capacity. -/
theorem State.ReportsFit.enqueueReport {s : State} (h : s.ReportsFit) (f : Frame) (hroom : s.reportRoom = true) :
    (s.enqueueReport f).ReportsFit := by
  refine ⟨?_, h.2⟩
  rw [State.reportRoom_iff] at hroom
  simpa [State.enqueueReport] using hroom

/-- A notice flag set keeps the bounds of reports (R166, R168). -/
theorem State.ReportsFit.raiseFlag {s : State} (h : s.ReportsFit) (f : NoticeFlag) : (s.raiseFlag f).ReportsFit := by
  have hdue (t : State) (ht : t.ReportsFit) : (t.noticeDue f).ReportsFit := by
    obtain ⟨e, hroom, -⟩ | ⟨-, ⟨e, -⟩ | ⟨e, hf⟩⟩ := noticeDue_cases t f <;> rw [e]
    · exact ht.enqueueReport _ hroom
    · exact ht
    · exact ⟨ht.1, ht.2.append (List.nodup_singleton f) (by simpa using hf)⟩
  unfold State.raiseFlag
  split
  · exact h
  · dsimp only
    split
    · exact hdue _ h
    · exact h

/-- A pending notice admitted keeps the bounds of reports (R168). -/
theorem State.ReportsFit.admitNotice {s : State} (h : s.ReportsFit) : s.admitNotice.ReportsFit := by
  obtain e | ⟨f, rest, hw, hroom, -, e⟩ := admitNotice_cases s <;> rw [e]
  · exact h
  · have hrest : ({ s with notice := { s.notice with waiting := rest } } : State).ReportsFit :=
      ⟨h.1, (List.nodup_cons.1 (hw ▸ h.2)).2⟩
    exact hrest.enqueueReport _ hroom

/-- Pending notices admitted keep the bounds of reports (R168). -/
theorem State.ReportsFit.admitNotices (n : Nat) {s : State} (h : s.ReportsFit) : (s.admitNotices n).ReportsFit := by
  induction n generalizing s with
  | zero => exact h
  | succ n ih => exact ih h.admitNotice

/-- A summary enqueued keeps the bounds of reports (R98, R101). -/
theorem State.ReportsFit.enqueueSummary {s : State} (h : s.ReportsFit) : s.enqueueSummary.ReportsFit := by
  obtain ⟨e, -⟩ | ⟨i, -, hroom, ⟨-, e⟩ | ⟨-, e⟩⟩ := enqueueSummary_cases s <;> rw [e]
  · exact h
  · have hreport := h.enqueueReport (s.summaryFrame i) hroom
    have hclosed : ({ s.enqueueReport (s.summaryFrame i) with
      pass := { s.pass with state := .closed, summary := none } } : State).ReportsFit := hreport
    exact (hclosed.admitNotices _).raiseFlag _
  · exact h.enqueueReport _ hroom

/-- The end of a drain keeps the bounds of reports (R96, R98). -/
theorem State.ReportsFit.settleDrain {s : State} (h : s.ReportsFit) : s.settleDrain.ReportsFit := by
  have hall (n : Nat) (t : State) (ht : t.ReportsFit) : (t.enqueueSummaries n).ReportsFit := by
    induction n generalizing t with
    | zero => exact ht
    | succ n ih => exact ih _ ht.enqueueSummary
  obtain ⟨e, -⟩ | ⟨e, -, -⟩ := settleDrain_cases s <;> rw [e]
  · exact h
  · exact hall 16 _ h

/-- A freed place that is filled keeps the bounds of reports (R160). -/
theorem State.ReportsFit.fillPlace {s : State} (h : s.ReportsFit) : s.fillPlace.ReportsFit := by
  unfold State.fillPlace
  split
  · exact h.enqueueSummary
  · exact h.admitNotice

/-- Events keep the bounds of reports. -/
theorem Event.reportsFit {s t : State} (h : Event s t) (hs : s.ReportsFit) : t.ReportsFit := by
  induction h with
  | sites h => unfold State.ReportsFit; rw [h.ret, h.notice]; exact hs
  | drawn s n => exact hs
  | raise s f => exact hs.raiseFlag f
  | report s f hroom => exact hs.enqueueReport f hroom
  | missed s n => exact hs
  | settle s => exact hs.settleDrain
  | depart s i => unfold State.ReportsFit; rw [(departure_only s i).ret, (departure_only s i).notice]; exact hs
  | trans _ _ ih ih' => exact ih' (ih hs)

/-- A part as a link loss begins on it: the Link Receiver in SEEK, the loss outstanding (R138). -/
def State.lossBegun (s : State) : State :=
  { s with
    link := { s.link with state := .seek, candidate := none, position := none, missRun := 0, errorRun := 0 }
    notice := { s.notice with lossOutstanding := true } }

/-- After it has begun, a link loss is an event (R53, R138). -/
theorem linkLoss_event (s : State) : Event s.lossBegun s.linkLoss := by
  have hflushed : Event s.lossBegun (s.lossBegun.onSites fun x => x.flushed (s.pass.state == .opened)) := by
    refine .sites (Eq.refl _) (fun i => ?_) fun _ i => ?_
    · rw [State.site_onSites, Site.flushed, losing_spec]
      split <;> rfl
    · rw [State.site_onSites, Site.flushed, losing_spec]
      split <;> exact Nat.zero_le _
  have hgrants (t : State) : Event t (forSites (fun i t => if (s.site i).queue = [] then t else t.grantIfEmpty i) t) :=
    forSites_event (fun i t => by
      split
      · exact .rfl t
      · exact grantIfEmpty_event t i) t
  have hflush : Event s.lossBegun s.lossBegun.flushAll := by
    have hall := hflushed.trans (hgrants _)
    unfold State.flushAll
    dsimp only
    split
    · exact hall.trans (.settle _)
    · exact hall
  exact hflush.trans (forSites_event (fun i t => parkPort_event t i) _)

/-- Every act keeps the bounds of reports (R156, R168). -/
theorem Act.reportsFit {loads : Prop} {reads : SiteNo → Prop} {s t : State} (h : Act loads reads s t) (hs : s.ReportsFit) :
    t.ReportsFit := by
  cases h with
  | calm h => unfold State.ReportsFit; rw [h.reports, h.waiting]; exact hs
  | site h => exact h.event.reportsFit hs
  | cal h =>
    obtain ⟨u, hu, e⟩ := h.changes
    have hfit : u.ReportsFit := by unfold State.ReportsFit; rw [hu.runs.ret, hu.runs.notice]; exact hs
    obtain rfl | rfl := e
    · exact hfit
    · exact hfit.raiseFlag _
  | link h =>
    obtain ⟨l, b, rfl | rfl⟩ := h.changes
    · exact hs
    · exact State.ReportsFit.raiseFlag (s := { s with link := l, notice := { s.notice with lossOutstanding := b } }) hs _
  | loss l => exact (linkLoss_event { s with link := l }).reportsFit hs
  | powerOn => exact ⟨Nat.zero_le _, List.nodup_nil⟩
  | lineReset | partReset =>
    refine ⟨?_, ?_⟩
    · simp [State.lineReset, State.partReset]
    · simp [State.lineReset, State.partReset, State.chainReset]
  | write id index b c hw => rw [writeEntry_tables s t id index b c hw]; exact hs
  | openPass n => exact hs
  | closePass f => exact State.ReportsFit.settleDrain (s := s.closing.enqueueResponse f) hs
  | respond f => exact hs
  | takeReturn f =>
    obtain e | ⟨n, e⟩ | ⟨-, held, e⟩ | e := takeReturn_cases s f <;> rw [e]
    · exact hs
    · exact hs
    · exact hs
    · exact hs.raiseFlag _
  | returnSlot =>
    obtain ⟨f, e⟩ | e | ⟨f, rest, -, e⟩ | ⟨f, rest, -, e⟩ | ⟨f, rest, -, hrep, e⟩ := returnSlot_cases s <;> rw [e]
    · exact hs
    · exact hs
    · exact hs
    · exact hs
    · refine State.ReportsFit.fillPlace ⟨?_, hs.2⟩
      have hlen := hs.1
      rw [hrep, List.length_cons] at hlen
      exact Nat.le_of_succ_le hlen
  | summary => exact hs.enqueueSummary
  | notify => exact hs.admitNotice

/-- A FIFO of at most 8 frames and a response queue of at most 4 (R156, R159). -/
def State.FramesFit (s : State) : Prop := s.ret.fifo.length ≤ 8 ∧ s.ret.responses.length ≤ 4

/-- What is local keeps the FIFO and the responses. -/
theorem Local.framesFit {s t : State} (h : Local s t) (hs : s.FramesFit) : t.FramesFit := by
  unfold State.FramesFit
  rw [h.ret]
  exact hs

/-- Every act keeps the FIFO and the response queue within their capacities (R156, R159). -/
theorem Act.framesFit {loads : Prop} {reads : SiteNo → Prop} {s t : State} (h : Act loads reads s t) (hs : s.FramesFit) :
    t.FramesFit := by
  have hrespond (f : Frame) (hroom : s.responseRoom = true) : (s.enqueueResponse f).FramesFit := by
    rw [State.responseRoom_iff] at hroom
    exact ⟨hs.1, by simpa [State.enqueueResponse] using hroom⟩
  cases h with
  | calm h => unfold State.FramesFit; rw [h.fifo, h.responses]; exact hs
  | site h => exact h.event.toLocal.framesFit hs
  | cal h => exact h.toLocal.framesFit hs
  | link h =>
    obtain ⟨l, b, rfl | rfl⟩ := h.changes
    · exact hs
    · exact (ReportsOnly.toLocal (raiseFlag_only { s with link := l, notice := { s.notice with lossOutstanding := b } } _)).framesFit hs
  | loss l => exact (linkLoss_event { s with link := l }).toLocal.framesFit hs
  | powerOn => exact ⟨Nat.zero_le _, Nat.zero_le _⟩
  | lineReset | partReset =>
    constructor <;> simp [State.lineReset, State.partReset]
  | write id index b c hw => rw [writeEntry_tables s t id index b c hw]; exact hs
  | openPass n => exact hs
  | closePass f _ hroom =>
    exact (ReportsOnly.toLocal (settleDrain_only (s.closing.enqueueResponse f))).framesFit (hrespond f hroom)
  | respond f hroom => exact hrespond f hroom
  | takeReturn f =>
    obtain e | ⟨n, e⟩ | ⟨hlen, held, e⟩ | e := takeReturn_cases s f <;> rw [e]
    · exact hs
    · exact hs
    · exact ⟨by simpa using hlen, hs.2⟩
    · exact (raiseFlag_only s _).toLocal.framesFit hs
  | returnSlot =>
    obtain ⟨f, e⟩ | e | ⟨f, rest, hf, e⟩ | ⟨f, rest, hr, e⟩ | ⟨f, rest, -, -, e⟩ := returnSlot_cases s <;> rw [e]
    · exact hs
    · exact hs
    · exact ⟨Nat.le_of_succ_le (by simpa [hf] using hs.1), hs.2⟩
    · exact ⟨hs.1, Nat.le_of_succ_le (by simpa [hr] using hs.2)⟩
    · exact (fillPlace_only _).toLocal.framesFit hs
  | summary => exact (enqueueSummary_only s).toLocal.framesFit hs
  | notify => exact (admitNotice_only s).toLocal.framesFit hs

/-- The capacities of all buffers, apart. -/
theorem State.buffersBounded_iff (s : State) :
    s.buffersBounded = true ↔ s.FramesFit ∧ s.ReportsFit ∧ ∀ i, (s.site i).Fits := by
  have hsites : (s.sites.toList.all fun x => decide (x.queue.length ≤ 64) && decide (x.ring.length ≤ 8)) = true ↔
      ∀ i, (s.site i).Fits := by
    rw [all_toList_iff]
    simp only [Bool.and_eq_true, decide_eq_true_eq]
    exact Iff.rfl
  unfold State.buffersBounded State.FramesFit State.ReportsFit
  rw [Bool.and_eq_true, hsites]
  simp only [Bool.and_eq_true, decide_eq_true_eq]
  tauto

/-- The order of all queues, site by site. -/
theorem State.queuesInOrder_iff (s : State) : s.queuesInOrder = true ↔ ∀ i, queueInOrder (s.site i).queue = true :=
  all_toList_iff _ _

/-- The soundness of all records, site by site. -/
theorem State.recordsSound_iff (s : State) : s.recordsSound = true ↔ ∀ i g, ((s.site i).records.get g).sound = true := by
  unfold State.recordsSound
  rw [all_toList_iff]
  exact forall_congr' fun i => all_toList_iff _ _

/-- The rules of R36 for all sites, with the empty queues outside LIVE. -/
theorem State.queuesQuiet_iff (s : State) :
    s.queuesQuiet = true ↔ (∀ i, (s.site i).quiet = true) ∧ (s.link.state ≠ .live → ∀ i, (s.site i).queue = []) := by
  unfold State.queuesQuiet
  rw [Bool.and_eq_true, Bool.or_eq_true, all_toList_iff, all_toList_iff, beq_iff_eq]
  simp only [List.isEmpty_iff]
  exact and_congr Iff.rfl or_iff_not_imp_left

/-- Settles O54, by the bounds and the orders that every act keeps. -/
theorem tablesStayInRangeAndBuffersBounded : Obligations.TablesStayInRangeAndBuffersBounded := by
  unfold Obligations.TablesStayInRangeAndBuffersBounded
  refine ⟨fun s t hs hst => ?_, fun s t hs hst => ?_, fun s t hs hst => ?_⟩
  · exact step_keeps (P := fun u => u.tablesInRange = true) (fun _ _ _ _ h => h.inRange) (fun _ _ h => h) hst hs
  · rw [State.buffersBounded_iff] at hs ⊢
    refine step_keeps (P := fun u => u.FramesFit ∧ u.ReportsFit ∧ ∀ i, (u.site i).Fits) ?_ (fun _ _ h => h) hst hs
    rintro loads reads u v h ⟨hframes, hreports, hsites⟩
    exact ⟨h.framesFit hframes, h.reportsFit hreports, fun i => (h.move i).fits (hsites i)⟩
  · rw [State.queuesInOrder_iff] at hs ⊢
    exact step_keeps (P := fun u => ∀ i, queueInOrder (u.site i).queue = true)
      (fun _ _ _ _ h hu i => (h.move i).inOrder (hu i)) (fun _ _ h => h) hst hs

/-- Every act keeps the records sound where the tables are in range (R66, R67). -/
theorem Act.recordsSound {loads : Prop} {reads : SiteNo → Prop} {s t : State} (h : Act loads reads s t)
    (htables : s.tablesInRange = true) (hs : s.recordsSound = true) : t.recordsSound = true := by
  rw [State.recordsSound_iff] at hs ⊢
  exact fun i => (h.move i).recordsSound ((Tables.inRange_iff _).1 htables).2.1 (hs i)

/-- Settles O55, by the moves of a site, with the ranges of the tables carried along. -/
theorem stepsKeepRecordsSound : Obligations.StepsKeepRecordsSound := by
  unfold Obligations.StepsKeepRecordsSound
  intro s t htables hs hst
  exact (step_keeps (P := fun u => u.tablesInRange = true ∧ u.recordsSound = true)
    (fun _ _ _ _ h hu => ⟨h.inRange hu.1, h.recordsSound hu.1 hu.2⟩) (fun _ _ h => h) hst ⟨htables, hs⟩).2

/-- An act that leaves LIVE leaves every queue empty (R53, R61). -/
theorem Act.emptied {loads : Prop} {reads : SiteNo → Prop} {s t : State} (h : Act loads reads s t)
    (hs : s.link.state = .live) (ht : t.link.state ≠ .live) (i : SiteNo) : (t.site i).queue = [] := by
  have hkept (hlink : t.link.state = s.link.state) : (t.site i).queue = [] := absurd (hlink.trans hs) ht
  cases h with
  | calm h => exact hkept (by rw [h.link])
  | site h => exact hkept (by rw [h.event.toLocal.link])
  | cal h => exact hkept (by rw [h.toLocal.link])
  | link h =>
    cases h with
    | release => exact absurd hs ht
    | up hdown => rw [hdown] at hs; exact nomatch hs
    | down hseek => rw [hseek] at hs; exact nomatch hs
    | count a => exact absurd hs ht
    | search a hseek => rw [hseek] at hs; exact nomatch hs
  | loss l => rw [State.site_linkLoss]; rfl
  | powerOn => rw [State.site_powerOn]
  | lineReset => rw [State.site_lineReset]
  | partReset => rw [State.site_partReset]
  | write id index b c hw => exact hkept (by rw [writeEntry_tables s t id index b c hw])
  | openPass n => exact hkept rfl
  | closePass f => exact hkept (by rw [(settleDrain_only _).link]; rfl)
  | respond f => exact hkept rfl
  | takeReturn f =>
    refine hkept ?_
    obtain e | ⟨n, e⟩ | ⟨-, held, e⟩ | e := takeReturn_cases s f <;> rw [e]
    rw [(raiseFlag_only _ _).link]
  | returnSlot =>
    refine hkept ?_
    obtain ⟨f, e⟩ | e | ⟨f, rest, -, e⟩ | ⟨f, rest, -, e⟩ | ⟨f, rest, -, -, e⟩ := returnSlot_cases s <;> rw [e]
    · rfl
    · rw [(fillPlace_only _).link]
  | summary => exact hkept (by rw [(enqueueSummary_only s).link])
  | notify => exact hkept (by rw [(admitNotice_only s).link])

/-- Every act keeps parked sites empty, and all queues outside LIVE (R36, R44, R53). -/
theorem Act.queuesQuiet {loads : Prop} {reads : SiteNo → Prop} {s t : State} (h : Act loads reads s t)
    (hs : s.queuesQuiet = true) : t.queuesQuiet = true := by
  rw [State.queuesQuiet_iff] at hs ⊢
  obtain ⟨hquiet, hempty⟩ := hs
  refine ⟨fun i => (h.move i).quiet (hquiet i), fun hlive i => ?_⟩
  by_cases hs : s.link.state = .live
  · exact h.emptied hs hlive i
  · exact (h.move i).queue_empty hs (hempty hs i)

/-- Settles O56, by the moves of a site and the acts that leave LIVE. -/
theorem parkedSitesStayEmpty : Obligations.ParkedSitesStayEmpty := by
  unfold Obligations.ParkedSitesStayEmpty
  intro s t hs hst
  exact step_keeps (P := fun u => u.queuesQuiet = true) (fun _ _ _ _ h => h.queuesQuiet) (fun _ _ h => h) hst hs

end Sys2Proof.Machine
end

section
/-! PROOFS. The pairing of the spare state with the lane states: every act keeps it, so every step does (O57, R108). -/

namespace Sys2Proof.Machine

/-- The lane state of each site. -/
def State.lanes (s : State) (i : SiteNo) : LaneState := (s.site i).lane

/-- Every lane but site i's is ONLINE. -/
def OthersOnline (lane : SiteNo → LaneState) (i : SiteNo) : Prop := ∀ j, j ≠ i → lane j = .online

/-- The pairing of the spare with the lanes, stage by stage (R108). -/
inductive Paired (x : Cal) (lane : SiteNo → LaneState) : Prop
  | idle : x.spare = .idle → x.target = none → x.boundary = none → (∀ j, lane j = .online) → Paired x lane
  | scanning (i : SiteNo) : x.spare = .training → x.target = some i → x.boundary = none → OthersOnline lane i →
      lane i = .online → Paired x lane
  | shadowing (i : SiteNo) : x.spare = .training → x.target = some i → x.boundary ≠ some .handBack →
      x.found.isSome = true → OthersOnline lane i → lane i = .shadowed → Paired x lane
  | offline (i : SiteNo) : x.spare = .standingIn → x.target = some i → x.boundary = none → x.found.isSome = true →
      OthersOnline lane i → lane i = .offlineCal → Paired x lane
  | soaking (i : SiteNo) : x.spare = .standingIn → x.target = some i → x.boundary ≠ some .handover →
      x.found.isSome = true → x.working.isSome = true → OthersOnline lane i → lane i = .soak → Paired x lane
  | committed (i : SiteNo) : x.spare = .committed → x.target = some i → x.boundary = none → x.found.isSome = true →
      OthersOnline lane i → lane i = .degraded → Paired x lane

/-- The check of the pairing is the pairing. -/
theorem State.calPaired_iff (s : State) : s.calPaired = true ↔ Paired s.cal s.lanes := by
  have hothers (i : SiteNo) : (allSites.all fun j => j == i || (s.site j).lane == .online) = true ↔ OthersOnline s.lanes i := by
    simp only [List.all_eq_true, Bool.or_eq_true, beq_iff_eq, OthersOnline, State.lanes]
    exact ⟨fun h j hj => (h j (mem_allSites j)).resolve_left hj, fun h j _ => or_iff_not_imp_left.2 (h j)⟩
  have hall : (allSites.all fun j => (s.site j).lane == .online) = true ↔ ∀ j, s.lanes j = .online := by
    simp only [List.all_eq_true, beq_iff_eq, State.lanes]
    exact ⟨fun h j => h j (mem_allSites j), fun h j _ => h j⟩
  constructor
  · intro h
    unfold State.calPaired at h
    dsimp only at h
    split at h <;> simp only [Bool.and_eq_true, Bool.or_eq_true, hothers, hall, beq_iff_eq, bne_iff_ne,
      Option.isNone_iff_eq_none, Bool.false_eq_true] at h
    next hs ht => exact .idle hs ht h.2 h.1
    next i hs ht =>
      obtain ⟨ho, ⟨hl, hb⟩ | ⟨⟨hl, hf⟩, hb⟩⟩ := h
      · exact .scanning i hs ht hb ho hl
      · exact .shadowing i hs ht hb hf ho hl
    next i hs ht =>
      obtain ⟨⟨ho, hf⟩, ⟨hl, hb⟩ | ⟨⟨hl, hw⟩, hb⟩⟩ := h
      · exact .offline i hs ht hb hf ho hl
      · exact .soaking i hs ht hb hf hw ho hl
    next i hs ht => exact .committed i hs ht h.2 h.1.2 h.1.1.1 h.1.1.2
  · intro h
    cases h <;> simp_all [State.calPaired, State.lanes]

section
variable {x y : Cal} {lane lane' : SiteNo → LaneState}

/-- What the pairing speaks of. -/
theorem Paired.congr (h : Paired x lane) (hspare : y.spare = x.spare) (htarget : y.target = x.target)
    (hfound : y.found = x.found) (hworking : y.working = x.working) (hboundary : y.boundary = x.boundary)
    (hlane : ∀ j, lane' j = lane j) : Paired y lane' := by
  obtain rfl : lane' = lane := funext hlane
  cases h with
  | idle hs ht hb hl => exact .idle (hspare.trans hs) (htarget.trans ht) (hboundary.trans hb) hl
  | scanning i hs ht hb ho hl => exact .scanning i (hspare.trans hs) (htarget.trans ht) (hboundary.trans hb) ho hl
  | shadowing i hs ht hb hf ho hl =>
    exact .shadowing i (hspare.trans hs) (htarget.trans ht) (hboundary ▸ hb) (hfound ▸ hf) ho hl
  | offline i hs ht hb hf ho hl =>
    exact .offline i (hspare.trans hs) (htarget.trans ht) (hboundary.trans hb) (hfound ▸ hf) ho hl
  | soaking i hs ht hb hf hw ho hl =>
    exact .soaking i (hspare.trans hs) (htarget.trans ht) (hboundary ▸ hb) (hfound ▸ hf) (hworking ▸ hw) ho hl
  | committed i hs ht hb hf ho hl =>
    exact .committed i (hspare.trans hs) (htarget.trans ht) (hboundary.trans hb) (hfound ▸ hf) ho hl

/-- All lanes but the target's are ONLINE. -/
theorem Paired.others {i : SiteNo} (h : Paired x lane) (ht : x.target = some i) : OthersOnline lane i := by
  cases h with
  | idle _ hn => rw [hn] at ht; exact nomatch ht
  | scanning j _ hj _ ho | shadowing j _ hj _ _ ho | offline j _ hj _ _ ho | soaking j _ hj _ _ _ ho
  | committed j _ hj _ _ ho =>
    rw [hj] at ht
    exact Option.some.inj ht ▸ ho

/-- With the spare IDLE there is no target and every lane is ONLINE. -/
theorem Paired.atRest (h : Paired x lane) (hs : x.spare = .idle) : x.target = none ∧ ∀ j, lane j = .online := by
  cases h with
  | idle _ ht _ hl => exact ⟨ht, hl⟩
  | scanning _ h | shadowing _ h | offline _ h | soaking _ h | committed _ h => rw [h] at hs; exact nomatch hs

/-- With the spare away from IDLE there is a target. -/
theorem Paired.hasTarget (h : Paired x lane) (hs : x.spare ≠ .idle) : ∃ i, x.target = some i := by
  cases h with
  | idle h => exact absurd h hs
  | scanning i _ ht | shadowing i _ ht | offline i _ ht | soaking i _ ht | committed i _ ht => exact ⟨i, ht⟩

/-- A DEGRADED lane is that of a COMMITTED spare's target. -/
theorem Paired.ofDegraded {i : SiteNo} (h : Paired x lane) (hi : lane i = .degraded) :
    x.target = some i ∧ x.found.isSome = true ∧ x.spare = .committed := by
  have hne (j : SiteNo) (l : LaneState) (ho : OthersOnline lane j) (hl : lane j = l) (hd : l ≠ .degraded) : False := by
    by_cases hij : i = j
    · subst hij; exact hd (hl.symm.trans hi)
    · exact nomatch (ho i hij).symm.trans hi
  cases h with
  | idle _ _ _ hl => exact nomatch (hl i).symm.trans hi
  | scanning j _ _ _ ho hl | shadowing j _ _ _ _ ho hl | offline j _ _ _ _ ho hl | soaking j _ _ _ _ _ ho hl =>
    exact (hne j _ ho hl nofun).elim
  | committed j hs ht _ hf ho hl =>
    by_cases hij : i = j
    · subst hij; exact ⟨ht, hf, hs⟩
    · exact nomatch (ho i hij).symm.trans hi

end

/-- What a stage of a run is: the target, the spare and the lane (R108). -/
theorem State.stage_iff (s : State) (i : SiteNo) :
    (s.stage = .trainingScan i ↔ s.cal.target = some i ∧ s.cal.spare = .training ∧ s.lanes i = .online) ∧
    (s.stage = .shadow i ↔ s.cal.target = some i ∧ s.cal.spare = .training ∧ s.lanes i = .shadowed) ∧
    (s.stage = .offlineScan i ↔ s.cal.target = some i ∧ s.cal.spare = .standingIn ∧ s.lanes i = .offlineCal) ∧
    (s.stage = .soak i ↔ s.cal.target = some i ∧ s.cal.spare = .standingIn ∧ s.lanes i = .soak) := by
  unfold State.stage State.lanes
  cases ht : s.cal.target with
  | none => simp
  | some k =>
    dsimp only
    by_cases hk : k = i
    · subst hk
      generalize s.cal.spare = spare
      generalize (s.site k).lane = lane
      cases spare <;> cases lane <;> simp
    · simp only [Option.some.injEq, hk, false_and, iff_false]
      split <;> simp [hk]

/-- The pairing of a part (R108). -/
def State.Paired (s : State) : Prop := Machine.Paired s.cal s.lanes

/-- Lanes after one site was replaced. -/
theorem State.lanes_setSite (s : State) (i j : SiteNo) (x : Site) :
    (s.setSite i x).lanes j = if j = i then x.lane else s.lanes j := by
  unfold State.lanes
  rw [State.site_setSite]
  split <;> rfl

/-- The others stay ONLINE when one lane is set. -/
theorem OthersOnline.setSite {s : State} {i : SiteNo} (h : OthersOnline s.lanes i) (x : Site) :
    OthersOnline (s.setSite i x).lanes i := fun j hj => by
  rw [State.lanes_setSite, if_neg hj]
  exact h j hj

/-- With the others ONLINE, one lane brought ONLINE makes all ONLINE. -/
theorem OthersOnline.all {s : State} {i : SiteNo} (h : OthersOnline s.lanes i) {x : Site} (hx : x.lane = .online) (j : SiteNo) :
    (s.setSite i x).lanes j = .online := by
  rw [State.lanes_setSite]
  split
  · exact hx
  next hj => exact h j hj

/-- A start attempted keeps the pairing (R113, R117). -/
theorem State.Paired.attemptRun {s : State} (h : s.Paired) : s.attemptRun.Paired := by
  obtain ⟨e, -⟩ | ⟨⟨-, -, hspare⟩, e | ⟨k, index, -, e⟩⟩ := attemptRun_cal_cases s <;> rw [e]
  · exact h
  · exact Machine.Paired.congr h rfl rfl rfl rfl rfl fun _ => rfl
  · obtain ⟨-, hl⟩ := Machine.Paired.atRest h hspare
    exact .scanning k rfl rfl rfl (fun j _ => hl j) (hl k)

/-- The end of a run keeps the pairing (R118, R124). -/
theorem State.Paired.endRun {s : State} (h : s.Paired) : s.endRun.Paired := by
  cases ht : s.cal.target with
  | none => rw [endRun_of_none s ht]; exact h
  | some i =>
    rw [endRun_of_target s i ht]
    exact State.Paired.attemptRun (.idle rfl rfl rfl fun j => (Machine.Paired.others h ht).all rfl j)

/-- The hand-back keeps the pairing (R122). -/
theorem State.Paired.completeRun {s : State} {i : SiteNo} (h : s.Paired) (ht : s.cal.target = some i) :
    (s.completeRun i).Paired := by
  rw [completeRun_spec]
  exact State.Paired.attemptRun (.idle rfl rfl rfl fun j =>
    (Machine.Paired.others h ht).all (s := s) (x := { s.site i with lane := .online }) rfl j)

/-- A departure keeps the pairing (R126, R128). -/
theorem State.Paired.departure {s : State} (h : s.Paired) (i : SiteNo) : (s.departure i).Paired := by
  obtain e | ⟨ht, -, e | ⟨-, e⟩⟩ := departure_cases s i <;> rw [e]
  · exact h
  · exact h.endRun
  · exact h.completeRun ht

/-- The pairing depends on calibration and the lanes only. -/
theorem State.Paired.ofLanes {s t : State} (h : s.Paired) (hcal : t.cal = s.cal) (hlane : ∀ i, (t.site i).lane = (s.site i).lane) :
    t.Paired := by
  unfold State.Paired
  rw [hcal]
  exact Machine.Paired.congr h rfl rfl rfl rfl rfl hlane

/-- What reports write keeps the pairing. -/
theorem State.Paired.ofReports {s t : State} (h : s.Paired) (k : ReportsOnly s t) : t.Paired :=
  h.ofLanes k.cal fun i => by rw [k.site i]

/-- Events keep the pairing. -/
theorem Event.paired {s t : State} (h : Event s t) (hs : s.Paired) : t.Paired := by
  induction h with
  | sites h hlane => exact hs.ofLanes h.cal hlane
  | drawn s n => exact hs
  | raise s f => exact hs.ofReports (raiseFlag_only s f)
  | report s f => exact hs
  | missed s n => exact hs
  | settle s => exact hs.ofReports (settleDrain_only s)
  | depart s i => exact hs.departure i
  | trans _ _ ih ih' => exact ih' (ih hs)

/-- A flag set keeps the pairing. -/
theorem State.Paired.raiseFlag {s : State} (h : s.Paired) (f : NoticeFlag) : (s.raiseFlag f).Paired := Event.paired (.raise s f) h

/-- An offline scan begun keeps the pairing (R120). -/
theorem beginOffline_paired {s : State} {i : SiteNo} (ht : s.cal.target = some i) (hf : s.cal.found.isSome = true)
    (ho : OthersOnline s.lanes i) : (s.beginOffline i).Paired := by
  refine .offline i rfl ht rfl hf (ho.setSite (s := s) { s.site i with lane := .offlineCal }) ?_
  exact (s.lanes_setSite i i { s.site i with lane := .offlineCal }).trans (if_pos rfl)

/-- An attempt failure keeps the pairing (R123). -/
theorem attemptFailure_paired {s : State} {i : SiteNo} (ht : s.cal.target = some i) (hf : s.cal.found.isSome = true)
    (ho : OthersOnline s.lanes i) : (s.attemptFailure i).Paired := by
  unfold State.attemptFailure
  dsimp only
  split
  · exact beginOffline_paired (s := { s with cal := { s.cal with attempts := s.cal.attempts + 1 } }) ht hf ho
  · apply State.Paired.raiseFlag
    refine .committed i rfl ht rfl hf ?_ ?_
    · exact ho.setSite (s := s) _
    · exact (s.lanes_setSite i i _).trans (if_pos rfl)

/-- A training scan in progress: the others ONLINE, no boundary awaited. -/
theorem State.Paired.scanned {s : State} {i : SiteNo} (h : s.Paired) (hst : s.stage = .trainingScan i) :
    s.cal.target = some i ∧ s.cal.boundary = none ∧ OthersOnline s.lanes i := by
  obtain ⟨ht, hs, hl⟩ := (s.stage_iff i).1.1 hst
  refine ⟨ht, ?_, Machine.Paired.others h ht⟩
  cases h with
  | idle h => rw [h] at hs; exact nomatch hs
  | scanning j _ _ hb => exact hb
  | shadowing j _ hj _ _ _ hlj => obtain rfl := Option.some.inj (hj.symm.trans ht); rw [hlj] at hl; exact nomatch hl
  | offline j h | soaking j h | committed j h => rw [h] at hs; exact nomatch hs

/-- What a run holds that stands in or shadows: the found phase, and the others ONLINE. -/
theorem State.Paired.ofFound {s : State} {i : SiteNo} (h : s.Paired) (ht : s.cal.target = some i)
    (hl : s.lanes i ≠ .online) : s.cal.found.isSome = true ∧ OthersOnline s.lanes i := by
  refine ⟨?_, Machine.Paired.others h ht⟩
  cases h with
  | idle _ hn => rw [hn] at ht; exact nomatch ht
  | scanning j _ hj _ _ hlj => obtain rfl := Option.some.inj (hj.symm.trans ht); exact absurd hlj hl
  | shadowing _ _ _ _ hf | offline _ _ _ _ hf | soaking _ _ _ _ hf | committed _ _ _ _ hf => exact hf

/-- What a soak holds: the working phase, and no handover awaited. -/
theorem State.Paired.soaked {s : State} {i : SiteNo} (h : s.Paired) (ht : s.cal.target = some i) (hl : s.lanes i = .soak) :
    s.cal.working.isSome = true ∧ s.cal.boundary ≠ some .handover := by
  cases h with
  | idle _ hn => rw [hn] at ht; exact nomatch ht
  | soaking _ _ _ hb _ hw => exact ⟨hw, hb⟩
  | scanning j _ hj _ _ hlj | shadowing j _ hj _ _ _ hlj | offline j _ hj _ _ _ hlj | committed j _ hj _ _ _ hlj =>
    obtain rfl := Option.some.inj (hj.symm.trans ht)
    exact nomatch hlj.symm.trans hl

/-- The words of a training scan keep the pairing (R118). -/
theorem trainWords_paired {s : State} {i : SiteNo} (h : s.Paired) (hst : s.stage = .trainingScan i) (words : List WordPair) :
    (s.trainWords i words).Paired := by
  obtain ⟨ht, hb, ho⟩ := h.scanned hst
  obtain ⟨-, hs, -⟩ := (s.stage_iff i).1.1 hst
  have hscan : (s.scanWords words).Paired := Machine.Paired.congr h rfl rfl rfl rfl rfl fun _ => rfl
  unfold State.trainWords
  dsimp only
  split
  · exact hscan
  · split
    · refine .shadowing i hs ht ?_ rfl (ho.setSite (s := s) { s.site i with lane := .shadowed }) ?_
      · intro e; exact nomatch hb.symm.trans e
      · exact (s.lanes_setSite i i _).trans (if_pos rfl)
    · exact State.Paired.endRun (s := { s.scanWords words with cal := _ }) (Machine.Paired.congr hscan rfl rfl rfl rfl rfl fun _ => rfl)

/-- The words of shadow agreement keep the pairing (R119). -/
theorem shadowWords_paired {s : State} {i : SiteNo} (h : s.Paired) (hst : s.stage = .shadow i) (words : List WordPair) :
    (s.shadowWords words).Paired := by
  obtain ⟨ht, hs, hl⟩ := (s.stage_iff i).2.1.1 hst
  obtain ⟨hf, ho⟩ := h.ofFound ht (by rw [hl]; nofun)
  unfold State.shadowWords
  dsimp only
  split
  · exact .shadowing i hs ht nofun hf ho hl
  · split
    · exact State.Paired.endRun (s := { s with cal := _ }) (Machine.Paired.congr h rfl rfl rfl rfl rfl fun _ => rfl)
    · exact Machine.Paired.congr h rfl rfl rfl rfl rfl fun _ => rfl

/-- The words of an offline scan keep the pairing (R120, R121). -/
theorem offlineWords_paired {s : State} {i : SiteNo} (h : s.Paired) (hst : s.stage = .offlineScan i) (words : List WordPair) :
    (s.offlineWords i words).Paired := by
  obtain ⟨ht, hs, hl⟩ := (s.stage_iff i).2.2.1.1 hst
  obtain ⟨hf, ho⟩ := h.ofFound ht (by rw [hl]; nofun)
  have hb : s.cal.boundary = none := by
    cases h with
    | idle _ _ hb | scanning _ _ _ hb | offline _ _ _ hb | committed _ _ _ hb => exact hb
    | shadowing j h => rw [h] at hs; exact nomatch hs
    | soaking j _ hj _ _ _ _ hlj => obtain rfl := Option.some.inj (hj.symm.trans ht); exact nomatch hlj.symm.trans hl
  unfold State.offlineWords
  dsimp only
  split
  · exact Machine.Paired.congr h rfl rfl rfl rfl rfl fun _ => rfl
  · split
    · refine .soaking i hs ht ?_ hf rfl (ho.setSite (s := s) { s.site i with lane := .soak }) ?_
      · intro e; exact nomatch hb.symm.trans e
      · exact (s.lanes_setSite i i _).trans (if_pos rfl)
    · exact attemptFailure_paired (s := s.scanWords words) ht hf ho

/-- The words of a soak keep the pairing (R121, R122). -/
theorem soakWords_paired {s : State} {i : SiteNo} (h : s.Paired) (hst : s.stage = .soak i) (words : List WordPair) :
    (s.soakWords i words).Paired := by
  obtain ⟨ht, hs, hl⟩ := (s.stage_iff i).2.2.2.1 hst
  obtain ⟨hf, ho⟩ := h.ofFound ht (by rw [hl]; nofun)
  obtain ⟨hw, -⟩ := h.soaked ht hl
  unfold State.soakWords
  dsimp only
  split
  · exact attemptFailure_paired (s := { s with cal := _ }) ht hf ho
  · split
    · exact .soaking i hs ht nofun hf hw ho hl
    · exact Machine.Paired.congr h rfl rfl rfl rfl rfl fun _ => rfl

/-- Every act of calibration keeps the pairing (R108). -/
theorem CalAct.paired {s t : State} (h : CalAct s t) (hs : s.Paired) : t.Paired := by
  cases h with
  | start =>
    unfold State.calStart
    split
    · exact hs
    · exact Machine.Paired.congr hs rfl rfl rfl rfl rfl fun _ => rfl
  | stop =>
    unfold State.calStop
    split
    · exact Machine.Paired.congr hs rfl rfl rfl rfl rfl fun _ => rfl
    · exact hs
  | abort =>
    unfold State.calAbort
    split
    · exact hs
    · exact hs.endRun
  | retry i hl =>
    obtain ⟨ht, hf, -⟩ := Machine.Paired.ofDegraded hs hl
    exact beginOffline_paired (s := { s with cal := { s.cal with attempts := 0 } }) ht hf (Machine.Paired.others hs ht)
  | train i words hst => exact trainWords_paired hs hst words
  | shadow i words hst => exact shadowWords_paired hs hst words
  | offline i words hst => exact offlineWords_paired hs hst words
  | soak i words hst => exact soakWords_paired hs hst words
  | tick =>
    unfold State.tick
    split
    · split
      · exact State.Paired.attemptRun (s := { s with cal := _ }) (Machine.Paired.congr hs rfl rfl rfl rfl rfl fun _ => rfl)
      · exact Machine.Paired.congr hs rfl rfl rfl rfl rfl fun _ => rfl
    · exact hs
  | expiry => exact State.Paired.attemptRun (s := { s with cal := _ }) (Machine.Paired.congr hs rfl rfl rfl rfl rfl fun _ => rfl)
  | attempt => exact hs.attemptRun
  | handOver i hst =>
    obtain ⟨ht, -, hl⟩ := (s.stage_iff i).2.1.1 hst
    obtain ⟨hf, ho⟩ := hs.ofFound ht (by rw [hl]; nofun)
    exact beginOffline_paired ht hf ho
  | complete i hst => exact hs.completeRun ((s.stage_iff i).2.2.2.1 hst).1

/-- A chain reset by RESET PART resets calibration (R151). -/
theorem State.partReset_calibrationReset (s : State) : s.partReset.CalibrationReset s.tables.reload s.tables := by
  apply s.chainReset_calibrationReset.congr <;> simp only [State.partReset]

/-- A part without a run, every lane ONLINE. -/
theorem State.CalibrationReset.paired {t : State} {count : Half} {tables : Tables} (h : t.CalibrationReset count tables) :
    t.Paired := by
  obtain ⟨hlane, hcal, -⟩ := h
  unfold State.Paired
  rw [hcal]
  exact .idle rfl rfl rfl hlane

/-- Every act keeps the pairing (R108). -/
theorem Act.paired {loads : Prop} {reads : SiteNo → Prop} {s t : State} (h : Act loads reads s t) (hs : s.Paired) : t.Paired := by
  cases h with
  | calm h => exact hs.ofLanes h.cal fun i => by rw [h.site i]
  | site h => exact h.event.paired hs
  | cal h => exact h.paired hs
  | link h =>
    obtain ⟨l, b, rfl | rfl⟩ := h.changes
    · exact hs
    · exact State.Paired.raiseFlag (s := { s with link := l, notice := { s.notice with lossOutstanding := b } }) hs _
  | loss l => exact (linkLoss_event { s with link := l }).paired hs
  | powerOn => exact .idle rfl rfl rfl fun i => by unfold State.lanes; rw [State.site_powerOn]
  | lineReset => exact (State.lineReset_calibrationReset _).paired
  | partReset => exact (State.partReset_calibrationReset s).paired
  | write id index b c hw =>
    rw [writeEntry_tables s t id index b c hw]
    exact hs
  | openPass n => exact hs.ofLanes rfl fun i => by rw [State.site_openPass]; rfl
  | closePass f => exact State.Paired.ofReports (s := s.closing.enqueueResponse f) hs (settleDrain_only _)
  | respond f => exact hs
  | takeReturn f =>
    obtain e | ⟨n, e⟩ | ⟨-, held, e⟩ | e := takeReturn_cases s f <;> rw [e]
    · exact hs
    · exact hs
    · exact hs
    · exact hs.raiseFlag _
  | returnSlot =>
    obtain ⟨f, e⟩ | e | ⟨f, rest, -, e⟩ | ⟨f, rest, -, e⟩ | ⟨f, rest, -, -, e⟩ := returnSlot_cases s <;> rw [e]
    · exact hs
    · exact hs
    · exact hs
    · exact hs
    · refine State.Paired.ofReports ?_ (fillPlace_only _)
      exact hs
  | summary => exact hs.ofReports (enqueueSummary_only s)
  | notify => exact hs.ofReports (admitNotice_only s)

/-- Settles O57, by the pairing that every act keeps. -/
theorem spareAndLanesStayPaired : Obligations.SpareAndLanesStayPaired := by
  unfold Obligations.SpareAndLanesStayPaired
  intro s t hs hst
  rw [State.calPaired_iff] at hs ⊢
  exact step_keeps (P := State.Paired) (fun _ _ _ _ h => h.paired) (fun _ _ h => h) hst hs

end Sys2Proof.Machine
end

section
/-! PROOFS. The rotation at rest between steps: runs only on ENABLED sites, no start left waiting, the attempt count of each stage (R110, R113, R114, R123, R126). -/

namespace Sys2Proof.Machine

/-- Runs in progress are on ENABLED sites (R114, R125, R126). -/
def State.RunsEnabled (s : State) : Prop := ∀ i, s.runsAt i = true → (s.site i).condition = .enabled

/-- Where runs are depends on calibration and the conditions only. -/
theorem State.RunsEnabled.congr {s t : State} (h : s.RunsEnabled) (hcal : t.cal = s.cal)
    (hcond : ∀ i, (t.site i).condition = (s.site i).condition) : t.RunsEnabled := fun i hi => by
  rw [State.runsAt, hcal, ← State.runsAt] at hi
  rw [hcond]
  exact h i hi

/-- What reports write leaves runs where they are. -/
theorem State.RunsEnabled.ofReports {s t : State} (h : s.RunsEnabled) (k : ReportsOnly s t) : t.RunsEnabled :=
  h.congr k.cal fun i => by rw [k.site i]

/-- A change of sites that leaves the conditions leaves runs where they are. -/
theorem State.RunsEnabled.ofSites {s t : State} (h : s.RunsEnabled) (k : SitesOnly s t)
    (hcond : ∀ i, (t.site i).condition = (s.site i).condition) : t.RunsEnabled := h.congr k.cal hcond

/-- A change of one site that leaves its condition leaves runs where they are. -/
theorem State.RunsEnabled.onSite {s : State} (h : s.RunsEnabled) (i : SiteNo) {f : Site → Site}
    (hf : (f (s.site i)).condition = (s.site i).condition) : (s.onSite i f).RunsEnabled :=
  h.ofSites (onSite_only s i f) fun j => by
    rw [State.site_onSite]
    split
    next hj => subst hj; exact hf
    next => rfl

/-- After a site left ENABLED, its departure leaves runs on ENABLED sites (R126). -/
theorem departure_runsEnabled {s : State} {i : SiteNo} (h : ∀ k, k ≠ i → s.runsAt k = true → (s.site k).condition = .enabled) :
    (s.departure i).RunsEnabled := fun k hk => by
  have hcond : ((s.departure i).site k).condition = (s.site k).condition := by
    rw [State.site_departure]; split <;> rfl
  rw [hcond]
  by_cases hi : s.runsAt i = true
  · exact departure_runsAt hi hk
  · rw [departure_of_not_running (Bool.eq_false_iff.2 hi)] at hk
    exact h k (fun e => hi (e ▸ hk)) hk

/-- A drop with its departure leaves runs on ENABLED sites (R28, R126). -/
theorem State.RunsEnabled.leaveDropped {s : State} (h : s.RunsEnabled) (i : SiteNo) (c : DropCause) :
    (s.leaveDropped i c).RunsEnabled := by
  have hcal : ((s.setCondition i (.dropped c)).vacate i).cal = s.cal := (vacate_only _ i).cal
  refine departure_runsEnabled fun k hk hr => ?_
  rw [State.runsAt, hcal, ← State.runsAt] at hr
  rw [site_vacate, if_neg hk, State.setCondition, State.site_onSite, if_neg hk]
  exact h k hr

/-- A STATUS word leaves runs on ENABLED sites (R38, R39). -/
theorem State.RunsEnabled.takeStatus {s : State} (h : s.RunsEnabled) (i : SiteNo) (bits : Byte) :
    (s.takeStatus i bits).RunsEnabled := by
  have hdrop (t : State) (ht : t.RunsEnabled) : (t.headFaultDrop i).RunsEnabled := by
    unfold State.headFaultDrop
    split
    · exact (ht.leaveDropped i _).ofReports (raiseDropped_only _ _)
    next hc =>
      refine State.RunsEnabled.ofReports (fun k hk => ?_) (raiseFlag_only _ _)
      have hen := ht k hk
      rw [State.setCondition, State.site_onSite]
      split
      next e => subst e; rw [hc] at hen; exact nomatch hen
      next => exact hen
    · exact ht
    · exact ht
  have htaken : (s.takeHeadStatus i bits).RunsEnabled := by
    have hcurrent := h.onSite i (f := fun x => { x with current := bits }) rfl
    unfold State.takeHeadStatus
    dsimp only
    split
    · exact hcurrent
    · exact (hcurrent.onSite i (f := fun x => { x with changed := true }) rfl).ofReports (raiseFlag_only _ _)
  unfold State.takeStatus
  dsimp only
  split
  · exact hdrop _ htaken
  · exact htaken

/-- A compare leaves runs on ENABLED sites (R32, R50 to R52). -/
theorem State.RunsEnabled.compareEntry {s : State} (h : s.RunsEnabled) (i : SiteNo) (e : Entry) (data : Half) :
    (s.compareEntry i e data).RunsEnabled := by
  have hlogged : (s.logged i e data).RunsEnabled :=
    h.congr (s.logged_cal i e data) fun j => by rw [State.site_logged]; split <;> rfl
  rw [State.compareEntry_eq]
  split
  · have htaken : ((s.logged i e data).failTaken i e).RunsEnabled := hlogged.onSite i rfl
    rw [State.analyse_eq]
    split
    · exact (htaken.leaveDropped i _).ofReports (raiseFlag_only _ _)
    · exact htaken
  · exact hlogged

/-- A queue reported empty leaves the conditions. -/
theorem Site.grantedIfEmpty_condition (x : Site) : x.grantedIfEmpty.condition = x.condition := x.grantedIfEmpty_keeps.2.2.2

/-- The reports of a removal leave runs on ENABLED sites (R55). -/
theorem State.RunsEnabled.reportRemoval {s : State} (h : s.RunsEnabled) (i : SiteNo) : (s.reportRemoval i).RunsEnabled := by
  have hgrant : (s.grantIfEmpty i).RunsEnabled := h.ofSites (grantIfEmpty_only s i) fun j => by
    rw [State.site_grantIfEmpty_eq]
    split
    · exact Site.grantedIfEmpty_condition _
    · rfl
  exact hgrant.ofReports (settleDrain_only _)

/-- A READ_DATA word leaves runs on ENABLED sites (R45). -/
theorem State.RunsEnabled.takeReadData {s : State} (h : s.RunsEnabled) (i : SiteNo) (tag data : Half) :
    (s.takeReadData i tag data).RunsEnabled := by
  have hafter (t : State) (lost : List Entry) (shows : Bool) (act : State → State)
      (hact : ∀ u : State, u.RunsEnabled → (act u).RunsEnabled) (ht : t.RunsEnabled) :
      (t.afterRemoval i lost shows act).RunsEnabled := by
    obtain ⟨e, -⟩ | ⟨-, e | e⟩ := afterRemoval_cases t i lost shows act <;> rw [e]
    · exact (hact _ ht).reportRemoval i
    · exact (hact t.drawn (ht.congr rfl fun _ => rfl)).reportRemoval i
    · exact (hact _ (State.RunsEnabled.ofReports (s := t.drawn) (ht.congr rfl fun _ => rfl) (settleDrain_only _))).reportRemoval i
  have hpopped (older newer : List Entry) : (s.popped i older newer).RunsEnabled := h.onSite i (by rw [losing_spec])
  have hstray (u : State) (hu : u.RunsEnabled) : (u.stray i).RunsEnabled := hu.onSite i rfl
  obtain e | ⟨older, newer, x, -, e⟩ | ⟨older, newer, -, -, e⟩ := s.takeReadData_cases i tag data <;> rw [e]
  · exact hstray s h
  · exact hafter _ _ _ _ (fun u hu => hu.compareEntry i x data) (hpopped _ _)
  · exact hafter _ _ _ _ hstray (hpopped _ _)

/-- SET SITES leaves runs on ENABLED sites (R29 to R31, R126). -/
theorem State.RunsEnabled.applySites {s : State} (h : s.RunsEnabled) (enable drop : Half) :
    (s.applySites enable drop).RunsEnabled := by
  have hcal : (s.vacated enable drop).cal = s.cal := (vacated_only s enable drop).cal
  have hleft (k : SiteNo) (hk : s.leaves enable k = true) : ((s.vacated enable drop).site k).condition ≠ .enabled := by
    rw [State.vacated_condition drop hk]; nofun
  have hstays (k : SiteNo) (hk : ¬s.leaves enable k = true) (hr : (s.vacated enable drop).runsAt k = true) :
      ((s.vacated enable drop).site k).condition = .enabled := by
    rw [State.runsAt, hcal, ← State.runsAt] at hr
    have hen := h k hr
    rw [State.site_vacated]
    dsimp only
    rw [if_neg hk]
    have hbit : bitOf enable k.val = true := by
      simpa [State.leaves, hen] using hk
    simp [Site.setSite, hen, hbit]
  have hdeparted : (s.departed enable drop).RunsEnabled := by
    unfold State.departed
    by_cases hrun : ∃ i, s.leaves enable i = true ∧ (s.vacated enable drop).runsAt i = true
    · obtain ⟨i, hi, hr⟩ := hrun
      rw [departures_of_run hi hr hleft]
      exact departure_runsEnabled fun k hk hkr => absurd (Option.some.inj
        ((((State.runsAt_iff _ k).1 hkr).1.symm.trans ((State.runsAt_iff _ i).1 hr).1))) hk
    · rw [departures_of_none fun i hi => Bool.eq_false_iff.2 fun hr => hrun ⟨i, hi, hr⟩]
      exact fun k hk => hstays k (fun hl => hrun ⟨k, hl, hk⟩) hk
  rw [State.applySites_eq]
  split
  · exact hdeparted.ofReports (raiseDropped_only _ _)
  · split
    · exact hdeparted.ofReports (settleDrain_only _)
    · exact hdeparted

/-- The outcome of an expanded frame leaves the condition. -/
theorem State.issuedSite_condition (s : State) (c : Cycle) (i : SiteNo) (x : Site) :
    (s.issuedSite c i x).condition = x.condition := by
  unfold State.issuedSite
  split
  · split
    · rfl
    · rfl
    · split <;> rfl
  · split
    · rfl
    · split <;> rfl
  · rfl

/-- The expiry test leaves the condition. -/
theorem Site.expired_condition (x : Site) (limit : Nat) : (x.expired limit).condition = x.condition := by
  unfold Site.expired
  dsimp only
  split
  · rfl
  · rw [Site.grantedIfEmpty_condition, losing_spec]

/-- Every act of sites and slots leaves runs on ENABLED sites (R114, R126). -/
theorem SiteAct.runsEnabled {reads : SiteNo → Prop} {s t : State} (h : SiteAct reads s t) (hs : s.RunsEnabled) :
    t.RunsEnabled := by
  have hissue (u : State) (hu : u.RunsEnabled) (c : Cycle) (p : SiteNo → Bool) : (u.issueWhere c p).RunsEnabled :=
    hu.ofSites (issueWhere_only u c p) fun j => by
      rw [State.site_issueWhere]
      split
      · exact State.issuedSite_condition u c j _
      · rfl
  cases h with
  | age => exact hs.ofSites (Eq.refl _) fun j => by rw [State.ageAll_site]
  | expireAll =>
    have hexpired : s.expireSites.RunsEnabled := hs.ofSites (expireSites_only s) fun j => by
      rw [State.site_expireSites]; exact Site.expired_condition _ _
    unfold State.expireAll
    split
    · exact hexpired.ofReports (settleDrain_only _)
    · exact hs
  | expire i =>
    refine State.RunsEnabled.ofReports (hs.ofSites (expireSite_only s i) fun j => ?_) (settleDrain_only _)
    rw [State.site_expireSite]
    split
    · exact Site.expired_condition _ _
    · rfl
  | issue c p => exact hissue s hs c p
  | between c p =>
    have hexpired : s.expireSites.RunsEnabled := hs.ofSites (expireSites_only s) fun j => by
      rw [State.site_expireSites]; exact Site.expired_condition _ _
    exact (hissue _ hexpired c p).ofReports (settleDrain_only _)
  | read i tag data => exact hs.takeReadData i tag data
  | status i bits => exact hs.takeStatus i bits
  | setSites enable drop => exact hs.applySites enable drop
  | request i =>
    unfold State.holdRequest
    split
    · split
      · exact hs.ofSites (grant_only s i) fun j => by rw [site_grant]; split <;> rfl
      · exact hs.onSite i rfl
    · exact hs
  | release i => exact hs.onSite i rfl
  | settle => exact hs.ofReports (settleDrain_only s)
  | raise f => exact hs.ofReports (raiseFlag_only s f)

/-- The rotation between acts: the due flag only while RUNNING, the interval count not 0, the attempt count of each stage (R110, R113, R123). -/
structure Cal.Rested (x : Cal) : Prop where
  due : x.due = true → x.running = true
  count : x.count ≠ 0
  early : x.spare = .idle ∨ x.spare = .training → x.attempts = 0
  standing : x.spare = .standingIn → x.attempts < 3
  ended : x.spare = .committed → x.attempts = 3

/-- No start is left waiting (R113). -/
def Cal.Started (x : Cal) : Prop := x.due = true → x.spare ≠ .idle

/-- The rotation at rest between steps. -/
structure State.Rests (s : State) : Prop where
  rested : s.cal.Rested
  started : s.cal.Started
  enabled : s.RunsEnabled

/-- The check of the rotation, where spare and lanes are paired, is that it rests. -/
theorem State.rotationSettled_iff {s : State} (h : s.Paired) : s.rotationSettled = true ↔ s.Rests := by
  have htarget := Machine.Paired.hasTarget h
  constructor
  · intro hr
    unfold State.rotationSettled at hr
    simp only [Bool.and_eq_true, Bool.or_eq_true, Bool.not_eq_true', bne_iff_ne, ne_eq] at hr
    obtain ⟨⟨⟨hdue, hstart⟩, hcount⟩, hrun⟩ := hr
    refine ⟨⟨fun hd => hdue.resolve_right (by rw [hd]; nofun), hcount, fun hs => ?_, fun hs => ?_, fun hs => ?_⟩, ?_, ?_⟩
    · obtain hs | hs := hs
      · rw [hs] at hrun; simpa using hrun
      · obtain ⟨i, hi⟩ := htarget (by rw [hs]; nofun)
        rw [hs, hi] at hrun
        simp only [Bool.and_eq_true, beq_iff_eq] at hrun
        exact hrun.2
    · obtain ⟨i, hi⟩ := htarget (by rw [hs]; nofun)
      rw [hs, hi] at hrun
      simp only [Bool.and_eq_true, decide_eq_true_eq] at hrun
      exact hrun.2
    · rw [hs] at hrun; simpa using hrun
    · intro hd hs
      rw [hd, hs] at hstart
      exact absurd hstart (by decide)
    · intro i hi
      obtain ⟨ht, hs | hs⟩ := (s.runsAt_iff i).1 hi <;> rw [hs, ht] at hrun <;>
        simp only [Bool.and_eq_true, beq_iff_eq] at hrun <;> exact hrun.1
  · rintro ⟨⟨hdue, hcount, hearly, hstanding, hover⟩, hstart, hen⟩
    unfold State.rotationSettled
    have hdue' : (s.cal.running || !s.cal.due) = true := by
      cases hd : s.cal.due
      · simp
      · simp [hdue hd]
    have hstart' : (!(s.cal.due && s.cal.spare == .idle)) = true := by
      cases hd : s.cal.due
      · rfl
      · simp [hstart hd]
    rw [hdue', hstart', bne_iff_ne.2 hcount, Bool.true_and, Bool.true_and, Bool.true_and]
    cases hs : s.cal.spare with
    | idle => simpa using hearly (.inl hs)
    | committed => simpa using hover hs
    | training =>
      obtain ⟨i, hi⟩ := htarget (by rw [hs]; nofun)
      simp [hi, hearly (.inr hs), hen i ((s.runsAt_iff i).2 ⟨hi, .inl hs⟩)]
    | standingIn =>
      obtain ⟨i, hi⟩ := htarget (by rw [hs]; nofun)
      simp [hi, hstanding hs, hen i ((s.runsAt_iff i).2 ⟨hi, .inr hs⟩)]

/-- A start attempted where the rotation is rested puts it at rest (R113, R117). -/
theorem attemptRun_rests {s : State} (h : s.cal.Rested) (hen : s.cal.spare ≠ .idle → s.RunsEnabled) : s.attemptRun.Rests := by
  by_cases hs : s.cal.spare = .idle
  · have henabled : s.attemptRun.RunsEnabled := fun k hk => by
      rw [State.attemptRun_site]; exact attemptRun_runsAt hs hk
    obtain ⟨e, hno⟩ | ⟨⟨hrun, -, -⟩, e | ⟨k, index, -, e⟩⟩ := attemptRun_cal_cases s <;> rw [e] at henabled ⊢
    · exact ⟨h, fun hd _ => hno ⟨h.due hd, hd, hs⟩, henabled⟩
    · exact ⟨⟨nofun, h.count, h.early, h.standing, h.ended⟩, nofun, henabled⟩
    · exact ⟨⟨nofun, h.count, fun _ => rfl, nofun, nofun⟩, nofun, henabled⟩
  · obtain ⟨e, -⟩ | ⟨⟨-, -, hidle⟩, -⟩ := attemptRun_cases s
    · rw [e]; exact ⟨h, fun _ => hs, hen hs⟩
    · exact absurd hidle hs

/-- Calibration released keeps the rotation rested. -/
theorem Cal.Rested.released {x : Cal} (h : x.Rested) : x.released.Rested := ⟨h.due, h.count, fun _ => rfl, nofun, nofun⟩

/-- The end of a run puts the rotation at rest (R118, R124). -/
theorem endRun_rests {s : State} {i : SiteNo} (h : s.cal.Rested) (ht : s.cal.target = some i) : s.endRun.Rests := by
  rw [endRun_of_target s i ht]
  exact attemptRun_rests h.released fun hs => absurd rfl hs

/-- The hand-back puts the rotation at rest (R122). -/
theorem completeRun_rests {s : State} (h : s.cal.Rested) (i : SiteNo) : (s.completeRun i).Rests := by
  rw [completeRun_spec]
  have hreleased := h.released
  exact attemptRun_rests ⟨hreleased.due, hreleased.count, fun _ => rfl, nofun, nofun⟩ fun hs => absurd rfl hs

/-- An offline scan begun on an ENABLED site with attempts left leaves the rotation at rest (R120, R125). -/
theorem beginOffline_rests {s : State} {i : SiteNo} (ht : s.cal.target = some i) (hc : (s.site i).condition = .enabled)
    (hrested : (s.cal.due = true → s.cal.running = true) ∧ s.cal.count ≠ 0) (ha : s.cal.attempts < 3) : (s.beginOffline i).Rests := by
  refine ⟨⟨hrested.1, hrested.2, ?_, fun _ => ha, nofun⟩, nofun, fun k hk => ?_⟩
  · rintro (h | h) <;> exact nomatch h
  · obtain ⟨hk, -⟩ := (State.runsAt_iff _ k).1 hk
    obtain rfl : i = k := Option.some.inj (ht.symm.trans hk)
    have hsite : (s.beginOffline i).site i = { s.site i with lane := .offlineCal } :=
      State.site_onSite_self s i fun x => { x with lane := .offlineCal }
    rw [hsite]
    exact hc

/-- An attempt failure leaves the rotation at rest (R123). -/
theorem attemptFailure_rests {s : State} {i : SiteNo} (ht : s.cal.target = some i) (hs : s.cal.spare = .standingIn) (h : s.Rests) :
    (s.attemptFailure i).Rests := by
  have hlt := h.rested.standing hs
  have hen := h.enabled i ((s.runsAt_iff i).2 ⟨ht, .inr hs⟩)
  unfold State.attemptFailure
  dsimp only
  split
  next ha => exact beginOffline_rests (s := { s with cal := _ }) ht hen ⟨h.rested.due, h.rested.count⟩ ha
  next ha =>
    have hthree : s.cal.attempts + 1 = 3 := by omega
    refine ⟨?_, ?_, State.RunsEnabled.ofReports (fun k hk => ?_) (raiseFlag_only _ _)⟩
    · rw [(raiseFlag_only _ _).cal]
      refine ⟨h.rested.due, h.rested.count, ?_, nofun, fun _ => hthree⟩
      rintro (h | h) <;> exact nomatch h
    · rw [(raiseFlag_only _ _).cal]
      exact nofun
    · simp [State.runsAt] at hk

/-- Rest depends on calibration and the conditions only. -/
theorem State.Rests.congr {s t : State} (h : s.Rests) (hcal : t.cal = s.cal)
    (hcond : ∀ i, (t.site i).condition = (s.site i).condition) : t.Rests :=
  ⟨hcal ▸ h.rested, hcal ▸ h.started, h.enabled.congr hcal hcond⟩

/-- What leaves spare, target, attempts and rotation alone leaves the rotation at rest. -/
theorem State.Rests.withCal {s : State} (h : s.Rests) {x : Cal} (hx : x = { s.cal with
    found := x.found, working := x.working, scan := x.scan, words := x.words, run := x.run, soakLength := x.soakLength
    boundary := x.boundary }) : State.Rests { s with cal := x } := by
  obtain ⟨⟨hdue, hcount, hearly, hstanding, hended⟩, hstart, hen⟩ := h
  rw [hx]
  exact ⟨⟨hdue, hcount, hearly, hstanding, hended⟩, hstart, hen⟩

/-- A lane set leaves the rotation at rest. -/
theorem State.Rests.setLane {s : State} (h : s.Rests) (i : SiteNo) (l : LaneState) : (s.setLane i l).Rests :=
  h.congr rfl fun j => by rw [State.setLane, State.site_onSite]; split <;> rfl

/-- A training failure puts the rotation at rest (R118, R119). -/
theorem trainingFailure_rests {s : State} {i : SiteNo} (h : s.Rests) (ht : s.cal.target = some i) : s.trainingFailure.Rests := by
  obtain ⟨hdue, hcount, hearly, hstanding, hended⟩ := h.rested
  exact endRun_rests (s := { s with cal := { s.cal with trainingFailures := satAdd s.cal.trainingFailures 1 } })
    ⟨hdue, hcount, hearly, hstanding, hended⟩ ht

/-- A training scan's words leave the rotation at rest (R118). -/
theorem trainWords_rests {s : State} {i : SiteNo} (h : s.Rests) (ht : s.cal.target = some i) (words : List WordPair) :
    (s.trainWords i words).Rests := by
  have hscan : (s.scanWords words).Rests := h.withCal rfl
  unfold State.trainWords
  dsimp only
  split
  · exact hscan
  · split
    · exact (hscan.setLane i .shadowed).withCal rfl
    · exact trainingFailure_rests hscan ht

/-- Shadow agreement's words leave the rotation at rest (R119). -/
theorem shadowWords_rests {s : State} {i : SiteNo} (h : s.Rests) (ht : s.cal.target = some i) (words : List WordPair) :
    (s.shadowWords words).Rests := by
  unfold State.shadowWords
  dsimp only
  split
  · exact h.withCal rfl
  · split
    · refine trainingFailure_rests (i := i) ?_ ht
      exact h.withCal rfl
    · exact h.withCal rfl

/-- An offline scan's words leave the rotation at rest (R120, R121, R123). -/
theorem offlineWords_rests {s : State} {i : SiteNo} (h : s.Rests) (ht : s.cal.target = some i) (hs : s.cal.spare = .standingIn)
    (words : List WordPair) : (s.offlineWords i words).Rests := by
  have hscan : (s.scanWords words).Rests := h.withCal rfl
  unfold State.offlineWords
  dsimp only
  split
  · exact hscan
  · split
    · exact (hscan.setLane i .soak).withCal rfl
    · exact attemptFailure_rests (s := s.scanWords words) ht hs hscan

/-- A soak's words leave the rotation at rest (R121 to R123). -/
theorem soakWords_rests {s : State} {i : SiteNo} (h : s.Rests) (ht : s.cal.target = some i) (hs : s.cal.spare = .standingIn)
    (words : List WordPair) : (s.soakWords i words).Rests := by
  unfold State.soakWords
  dsimp only
  split
  · exact attemptFailure_rests (s := { s with cal := _ }) ht hs (h.withCal rfl)
  · split
    · exact h.withCal rfl
    · exact h.withCal rfl

/-- An interval expiry in a running rotation leaves it at rest (R110). -/
theorem intervalExpiry_rests {s : State} (h : s.Rests) (hrun : s.cal.running = true) (hreload : 1 ≤ s.tables.reload.toNat) :
    s.intervalExpiry.Rests := by
  have hcount : s.tables.reload ≠ 0 := fun e => by rw [e] at hreload; exact absurd hreload (by decide)
  obtain ⟨-, -, hearly, hstanding, hended⟩ := h.rested
  exact attemptRun_rests (s := { s with cal := _ }) ⟨fun _ => hrun, hcount, hearly, hstanding, hended⟩ fun _ =>
    h.enabled

/-- Every act of calibration leaves the rotation at rest (R110 to R126). -/
theorem CalAct.rests {s t : State} (h : CalAct s t) (hp : s.Paired) (hs : s.Rests) (hreload : 1 ≤ s.tables.reload.toNat) :
    t.Rests := by
  have hcount : s.tables.reload ≠ 0 := fun e => by rw [e] at hreload; exact absurd hreload (by decide)
  obtain ⟨⟨hdue, hcal, hearly, hstanding, hended⟩, hstart, hen⟩ := hs
  have hs : s.Rests := ⟨⟨hdue, hcal, hearly, hstanding, hended⟩, hstart, hen⟩
  cases h with
  | start =>
    unfold State.calStart
    split
    · exact hs
    · exact ⟨⟨fun _ => rfl, hcount, hearly, hstanding, hended⟩, hstart, hen⟩
  | stop =>
    unfold State.calStop
    split
    · exact ⟨⟨nofun, hcal, hearly, hstanding, hended⟩, nofun, hen⟩
    · exact hs
  | abort =>
    unfold State.calAbort
    split
    · exact hs
    next hspare =>
      obtain ⟨i, hi⟩ := Machine.Paired.hasTarget hp hspare
      exact endRun_rests hs.rested hi
  | retry i hl hc =>
    obtain ⟨ht, -, -⟩ := Machine.Paired.ofDegraded hp hl
    exact beginOffline_rests (s := { s with cal := { s.cal with attempts := 0 } }) ht hc ⟨hdue, hcal⟩ (by show 0 < 3; decide)
  | train i words hst => exact trainWords_rests hs ((s.stage_iff i).1.1 hst).1 words
  | shadow i words hst => exact shadowWords_rests hs ((s.stage_iff i).2.1.1 hst).1 words
  | offline i words hst =>
    obtain ⟨ht, hspare, -⟩ := (s.stage_iff i).2.2.1.1 hst
    exact offlineWords_rests hs ht hspare words
  | soak i words hst =>
    obtain ⟨ht, hspare, -⟩ := (s.stage_iff i).2.2.2.1 hst
    exact soakWords_rests hs ht hspare words
  | tick =>
    unfold State.tick
    split
    next hrun =>
      split
      · exact intervalExpiry_rests hs hrun hreload
      next hc =>
        refine ⟨⟨hdue, fun e => hc ?_, hearly, hstanding, hended⟩, hstart, hen⟩
        have hone : s.cal.count = 1 := sub_eq_zero.1 e
        rw [hone]; decide
    · exact hs
  | expiry hrun => exact intervalExpiry_rests hs hrun hreload
  | attempt => exact attemptRun_rests hs.rested fun _ => hen
  | handOver i hst =>
    obtain ⟨ht, hspare, -⟩ := (s.stage_iff i).2.1.1 hst
    have hzero : s.cal.attempts = 0 := hearly (.inr hspare)
    exact beginOffline_rests ht (hen i ((s.runsAt_iff i).2 ⟨ht, .inl hspare⟩)) ⟨hdue, hcal⟩ (by omega)
  | complete i => exact completeRun_rests hs.rested i

/-- Events leave the rotation rested, with no start left waiting. -/
theorem Event.rested {s t : State} (h : Event s t) (hs : s.cal.Rested ∧ s.cal.Started) : t.cal.Rested ∧ t.cal.Started := by
  induction h with
  | sites h => rw [h.cal]; exact hs
  | drawn s n => exact hs
  | raise s f => rw [(raiseFlag_only s f).cal]; exact hs
  | report s f => exact hs
  | missed s n => exact hs
  | settle s => rw [(settleDrain_only s).cal]; exact hs
  | depart s i =>
    obtain e | ⟨ht, -, e | ⟨-, e⟩⟩ := departure_cases s i <;> rw [e]
    · exact hs
    · have h := endRun_rests hs.1 ht
      exact ⟨h.rested, h.started⟩
    · have h := completeRun_rests hs.1 i
      exact ⟨h.rested, h.started⟩
  | trans _ _ ih ih' => exact ih' (ih hs)

/-- Calibration reset is at rest where its interval count is not 0 (R130). -/
theorem State.CalibrationReset.rests {t : State} {count : Half} {tables : Tables} (h : t.CalibrationReset count tables)
    (hcount : count ≠ 0) : t.Rests := by
  obtain ⟨-, hcal, -⟩ := h
  refine ⟨?_, ?_, fun i hi => ?_⟩
  · rw [hcal]; exact ⟨nofun, hcount, fun _ => rfl, nofun, nofun⟩
  · rw [hcal]; exact nofun
  · simp [State.runsAt, hcal] at hi

/-- Every act leaves the rotation at rest, where spare and lanes are paired and the reload value is in range. -/
theorem Act.rests {loads : Prop} {reads : SiteNo → Prop} {s t : State} (h : Act loads reads s t) (hp : s.Paired)
    (hreload : 1 ≤ s.tables.reload.toNat) (hs : s.Rests) : t.Rests := by
  have hcount : s.tables.reload ≠ 0 := fun e => by rw [e] at hreload; exact absurd hreload (by decide)
  have hreports {u v : State} (hu : u.Rests) (k : ReportsOnly u v) : v.Rests := hu.congr k.cal fun i => by rw [k.site i]
  cases h with
  | calm h => exact hs.congr h.cal fun i => by rw [h.site i]
  | site h =>
    obtain ⟨hrested, hstarted⟩ := h.event.rested ⟨hs.rested, hs.started⟩
    exact ⟨hrested, hstarted, h.runsEnabled hs.enabled⟩
  | cal h => exact h.rests hp hs hreload
  | link h =>
    obtain ⟨l, b, rfl | rfl⟩ := h.changes
    · exact hs.congr rfl fun _ => rfl
    · refine hreports ?_ (raiseFlag_only _ _)
      exact hs.congr rfl fun _ => rfl
  | loss l =>
    obtain ⟨u, v, hu, hv, hw⟩ := State.linkLoss_changes { s with link := l }
    exact hs.congr (by rw [hw.cal, hv.cal, hu.cal]) fun i => by rw [State.site_linkLoss]; rfl
  | powerOn => exact s.powerOn_calibrationReset.rests (by decide)
  | lineReset => exact (State.lineReset_calibrationReset _).rests hcount
  | partReset => exact (State.partReset_calibrationReset s).rests hcount
  | write id index b c hw =>
    rw [writeEntry_tables s t id index b c hw]
    exact hs.congr rfl fun _ => rfl
  | openPass n =>
    refine ⟨hs.rested, hs.started, fun i hi => ?_⟩
    rw [State.site_openPass]
    have hen := hs.enabled i hi
    simp [Site.openPass, Condition.restored, hen]
  | closePass f =>
    refine hreports (u := s.closing.enqueueResponse f) ?_ (settleDrain_only _)
    exact hs.congr rfl fun _ => rfl
  | respond f => exact hs.congr rfl fun _ => rfl
  | takeReturn f =>
    obtain e | ⟨n, e⟩ | ⟨-, held, e⟩ | e := takeReturn_cases s f <;> rw [e]
    · exact hs
    · exact hs.congr rfl fun _ => rfl
    · exact hs.congr rfl fun _ => rfl
    · exact hreports hs (raiseFlag_only _ _)
  | returnSlot =>
    obtain ⟨f, e⟩ | e | ⟨f, rest, -, e⟩ | ⟨f, rest, -, e⟩ | ⟨f, rest, -, -, e⟩ := returnSlot_cases s <;> rw [e]
    · exact hs.congr rfl fun _ => rfl
    · exact hs
    · exact hs.congr rfl fun _ => rfl
    · exact hs.congr rfl fun _ => rfl
    · refine hreports ?_ (fillPlace_only _)
      exact hs.congr rfl fun _ => rfl
  | summary => exact hreports hs (enqueueSummary_only s)
  | notify => exact hreports hs (admitNotice_only s)

end Sys2Proof.Machine
end

section
/-! PROOFS. The pass, its summaries and the pending notices at rest between steps, and the Link Receiver in each of its states; with these every step keeps a sound part sound (O58). -/

namespace Sys2Proof.Machine

/-- What holds of the pass, its summaries and the pending notices at every moment: no counted entry while no pass runs; summaries wait only in CLOSING, with no counted entry left and the report queue full; a notice waits only while summaries wait or the report queue is full (R55, R95, R98, R160, R168). -/
structure State.PassHeld (s : State) : Prop where
  ended : s.pass.state = .idle ∨ s.pass.state = .closed → ∀ i, countedIn (s.site i).queue = 0
  summary : s.pass.summary ≠ none →
    s.pass.state = .closing ∧ (∀ i, countedIn (s.site i).queue = 0) ∧ s.reportRoom = false
  notices : s.notice.waiting = [] ∨ s.summariesWaiting = true ∨ s.reportRoom = false

/-- A drain is complete when it is in progress and no queue holds a counted entry (R96). -/
theorem State.drainDone_iff (s : State) : s.drainDone = true ↔
    (s.pass.state = .closing ∧ s.pass.summary = none) ∧ ∀ i, countedIn (s.site i).queue = 0 := by
  rw [State.drainDone, State.draining, Bool.and_eq_true, Bool.and_eq_true, beq_iff_eq, beq_iff_eq, Option.isNone_iff_eq_none,
    State.countedTotal_eq_zero]

/-- The checks of the pass and of the notices are that they are held, with no drain left complete. -/
theorem State.passSettled_iff (s : State) :
    s.passSettled = true ∧ s.noticesSettled = true ↔ s.PassHeld ∧ s.drainDone = false := by
  have hnotices : s.noticesSettled = true ↔ s.notice.waiting = [] ∨ s.summariesWaiting = true ∨ s.reportRoom = false := by
    simp [State.noticesSettled, or_assoc]
  have hzero : (s.countedTotal == 0) = true ↔ ∀ i, countedIn (s.site i).queue = 0 := by
    rw [beq_iff_eq, State.countedTotal_eq_zero]
  have hdone : s.drainDone = false ↔ (s.pass.state = .closing → s.pass.summary = none → ¬∀ i, countedIn (s.site i).queue = 0) := by
    rw [← Bool.not_eq_true, State.drainDone_iff]
    tauto
  have hpass : s.passSettled = true ↔
      (s.pass.state = .idle ∨ s.pass.state = .closed → ∀ i, countedIn (s.site i).queue = 0) ∧
      (s.pass.summary ≠ none → s.pass.state = .closing ∧ (∀ i, countedIn (s.site i).queue = 0) ∧ s.reportRoom = false) ∧
      (s.pass.state = .closing → s.pass.summary = none → ¬∀ i, countedIn (s.site i).queue = 0) := by
    rw [← hzero]
    unfold State.passSettled
    cases hst : s.pass.state <;> cases hsum : s.pass.summary <;> simp
  rw [hpass, hnotices, hdone]
  constructor
  · rintro ⟨⟨hended, hsummary, hopen⟩, hwait⟩
    exact ⟨⟨hended, hsummary, hwait⟩, hopen⟩
  · rintro ⟨⟨hended, hsummary, hwait⟩, hopen⟩
    exact ⟨⟨hended, hsummary, hopen⟩, hwait⟩

/-- A report that finds room while no summary waits keeps the pass held. -/
theorem State.PassHeld.enqueueReport {s : State} (h : s.PassHeld) (f : Frame) (hroom : s.reportRoom = true)
    (hsum : s.summariesWaiting = false) : (s.enqueueReport f).PassHeld := by
  have hnone : s.pass.summary = none := by simpa [State.summariesWaiting] using hsum
  refine ⟨h.ended, fun hs => absurd hnone hs, .inl ?_⟩
  obtain hw | hw | hw := h.notices
  · exact hw
  · rw [hsum] at hw; exact nomatch hw
  · rw [hroom] at hw; exact nomatch hw

/-- A flag set leaves the pass alone. -/
@[simp] theorem State.raiseFlag_pass (s : State) (f : NoticeFlag) : (s.raiseFlag f).pass = s.pass := by
  have hdue (t : State) : (t.noticeDue f).pass = t.pass := by
    obtain ⟨e, -⟩ | ⟨-, ⟨e, -⟩ | ⟨e, -⟩⟩ := noticeDue_cases t f <;> rw [e]
    rfl
  unfold State.raiseFlag
  split
  · rfl
  · dsimp only
    split
    · rw [hdue]
    · rfl

/-- A flag set keeps the pass held (R166, R168). -/
theorem State.PassHeld.raiseFlag {s : State} (h : s.PassHeld) (f : NoticeFlag) : (s.raiseFlag f).PassHeld := by
  have hdue (t : State) (ht : t.PassHeld) : (t.noticeDue f).PassHeld := by
    obtain ⟨e, hroom, hsum, -⟩ | ⟨hwhy, ⟨e, -⟩ | ⟨e, -⟩⟩ := noticeDue_cases t f <;> rw [e]
    · exact ht.enqueueReport _ hroom hsum
    · exact ht
    · refine ⟨ht.ended, ht.summary, .inr ?_⟩
      obtain hw | hw | hw := hwhy
      · exact .inr hw
      · exact .inl hw
      · exact ht.notices.resolve_left hw
  unfold State.raiseFlag
  split
  · exact h
  · have hset : State.PassHeld { s with notice := { s.notice with flags := s.notice.flags ||| f.set } } :=
      ⟨h.ended, h.summary, h.notices⟩
    dsimp only
    split
    · exact hdue _ hset
    · exact hset

/-- A pending notice finds no place, or none waits: nothing is admitted (R168). -/
theorem admitNotice_of_settled {s : State} (h : s.notice.waiting = [] ∨ s.summariesWaiting = true ∨ s.reportRoom = false) :
    s.admitNotice = s := by
  obtain e | ⟨f, rest, hw, hroom, hsum, -⟩ := admitNotice_cases s
  · exact e
  · obtain h | h | h := h
    · rw [hw] at h; exact nomatch h
    · rw [hsum] at h; exact nomatch h
    · rw [hroom] at h; exact nomatch h

/-- A pending notice that finds a place takes it (R168). -/
theorem admitNotice_of_room {s : State} {f : NoticeFlag} {rest : List NoticeFlag} (hw : s.notice.waiting = f :: rest)
    (hroom : s.reportRoom = true) (hsum : s.summariesWaiting = false) :
    s.admitNotice = ({ s with notice := { s.notice with waiting := rest } } : State).enqueueReport (s.noticeFrame f) := by
  simp [State.admitNotice, hw, hroom, hsum]

/-- Pending notices admitted as many as wait: none waits, or the report queue is full; the pass and the sites are as before (R168). -/
theorem admitNotices_settled (n : Nat) {s : State} (hsum : s.summariesWaiting = false) (hn : s.notice.waiting.length ≤ n) :
    ((s.admitNotices n).notice.waiting = [] ∨ (s.admitNotices n).reportRoom = false) ∧ (s.admitNotices n).pass = s.pass := by
  induction n generalizing s with
  | zero => exact ⟨.inl (List.length_eq_zero_iff.1 (Nat.le_zero.1 hn)), rfl⟩
  | succ n ih =>
    have hfixed (h : s.notice.waiting = [] ∨ s.summariesWaiting = true ∨ s.reportRoom = false) (n : Nat) :
        s.admitNotices n = s := by
      induction n with
      | zero => rfl
      | succ n ih => rw [State.admitNotices, admitNotice_of_settled h, ih]
    cases hw : s.notice.waiting with
    | nil => rw [hfixed (.inl hw)]; exact ⟨.inl hw, rfl⟩
    | cons f rest =>
      cases hroom : s.reportRoom with
      | false => rw [hfixed (.inr (.inr hroom))]; exact ⟨.inr hroom, rfl⟩
      | true =>
        rw [hw, List.length_cons] at hn
        rw [State.admitNotices, admitNotice_of_room hw hroom hsum]
        exact ih hsum (Nat.le_of_succ_le_succ hn)

/-- The close of a pass with no counted entry left holds the pass, which is CLOSED with no summary waiting (R101, R168). -/
theorem passClosed_held {s : State} (h : ∀ i, countedIn (s.site i).queue = 0) :
    s.passClosed.PassHeld ∧ s.passClosed.pass.state = .closed ∧ s.passClosed.pass.summary = none := by
  let s₁ : State := { s with pass := { s.pass with state := .closed, summary := none } }
  obtain ⟨hwait, hpass⟩ := admitNotices_settled s₁.notice.waiting.length (s := s₁) rfl (Nat.le_refl _)
  have hheld : (s₁.admitNotices s₁.notice.waiting.length).PassHeld := by
    refine ⟨fun _ i => ?_, fun hs => ?_, hwait.imp_right .inr⟩
    · rw [(admitNotices_only _ s₁).site]; exact h i
    · rw [hpass] at hs; exact absurd rfl hs
  refine ⟨hheld.raiseFlag _, ?_, ?_⟩
  · show ((s₁.admitNotices s₁.notice.waiting.length).raiseFlag .passClosed).pass.state = _
    rw [State.raiseFlag_pass, hpass]
  · show ((s₁.admitNotices s₁.notice.waiting.length).raiseFlag .passClosed).pass.summary = _
    rw [State.raiseFlag_pass, hpass]

/-- Where no summary waits, or the report queue is full, no summary is enqueued (R98). -/
theorem enqueueSummary_of_settled {s : State} (h : s.pass.summary = none ∨ s.reportRoom = false) : s.enqueueSummary = s := by
  obtain ⟨e, -⟩ | ⟨i, hi, hroom, -⟩ := enqueueSummary_cases s
  · exact e
  · obtain h | h := h
    · rw [h] at hi; exact nomatch hi
    · rw [hroom] at h; exact nomatch h

/-- The same for several of them. -/
theorem enqueueSummaries_of_settled {s : State} (h : s.pass.summary = none ∨ s.reportRoom = false) (n : Nat) :
    s.enqueueSummaries n = s := by
  induction n with
  | zero => rfl
  | succ n ih => rw [State.enqueueSummaries, enqueueSummary_of_settled h, ih]

/-- Summaries enqueued from a position on, as many as are left, hold the pass, and no drain is in progress (R98, R101). -/
theorem enqueueSummaries_held (n : Nat) {s : State} {i : SiteNo} (hi : s.pass.summary = some i) (hst : s.pass.state = .closing)
    (hcount : ∀ i, countedIn (s.site i).queue = 0) (hn : 16 ≤ i.val + n) :
    (s.enqueueSummaries n).PassHeld ∧ (s.enqueueSummaries n).drainDone = false := by
  induction n generalizing s i with
  | zero => exact absurd i.isLt (by omega)
  | succ n ih =>
    obtain ⟨-, hfull⟩ | ⟨j, hj, -, ⟨-, e⟩ | ⟨hne, e⟩⟩ := enqueueSummary_cases s
    · rw [enqueueSummaries_of_settled hfull]
      have hroom : s.reportRoom = false := hfull.resolve_left (by rw [hi]; nofun)
      refine ⟨⟨fun _ => hcount, fun _ => ⟨hst, hcount, hroom⟩, .inr (.inr hroom)⟩, Bool.eq_false_iff.2 fun hd => ?_⟩
      obtain ⟨⟨-, hnone⟩, -⟩ := s.drainDone_iff.1 hd
      rw [hi] at hnone
      exact nomatch hnone
    · rw [State.enqueueSummaries, e]
      obtain ⟨hheld, hclosed, hnone⟩ := passClosed_held (s := s.enqueueReport (s.summaryFrame j)) hcount
      rw [enqueueSummaries_of_settled (.inl hnone)]
      refine ⟨hheld, Bool.eq_false_iff.2 fun hd => ?_⟩
      obtain ⟨⟨hclosing, -⟩, -⟩ := (State.drainDone_iff _).1 hd
      rw [hclosed] at hclosing
      exact nomatch hclosing
    · obtain rfl : i = j := Option.some.inj (hi.symm.trans hj)
      rw [State.enqueueSummaries, e]
      have hlt : i.val + 1 < 16 := by
        have := i.isLt
        have h15 : i.val ≠ 15 := fun h => hne (Fin.ext h)
        omega
      have hnext : (i + 1).val = i.val + 1 := Fin.val_add_one_of_lt' hlt
      refine ih (i := i + 1) rfl hst hcount ?_
      rw [hnext]
      omega

/-- The end of a drain holds the pass, and leaves no drain complete (R96, R98). -/
theorem settleDrain_held {s : State} (h : s.PassHeld) : s.settleDrain.PassHeld := by
  cases hd : s.drainDone with
  | false => rw [State.settleDrain, hd]; exact h
  | true =>
    obtain ⟨⟨hst, -⟩, hcount⟩ := s.drainDone_iff.1 hd
    rw [State.settleDrain, hd]
    exact (enqueueSummaries_held 16 (s := { s with pass := { s.pass with summary := some 0 } }) rfl hst hcount (by decide)).1

/-- After the report of a removal no drain is complete (R96). -/
theorem settleDrain_settles (s : State) : s.settleDrain.drainDone = false := by
  cases hd : s.drainDone with
  | false => rw [State.settleDrain, hd]; exact hd
  | true =>
    obtain ⟨⟨hst, -⟩, hcount⟩ := s.drainDone_iff.1 hd
    rw [State.settleDrain, hd]
    exact (enqueueSummaries_held 16 (s := { s with pass := { s.pass with summary := some 0 } }) rfl hst hcount (by decide)).2

/-- What the holding of the pass depends on. -/
theorem State.PassHeld.congr {s t : State} (h : s.PassHeld) (hpass : t.pass = s.pass)
    (hreports : t.ret.reports = s.ret.reports) (hwaiting : t.notice.waiting = s.notice.waiting)
    (hcount : s.pass.state ≠ .opened → ∀ i, countedIn (t.site i).queue ≤ countedIn (s.site i).queue) : t.PassHeld := by
  have hroom : t.reportRoom = s.reportRoom := by rw [State.reportRoom, hreports, State.reportRoom]
  have hzero (hno : s.pass.state ≠ .opened) (hz : ∀ i, countedIn (s.site i).queue = 0) (i : SiteNo) :
      countedIn (t.site i).queue = 0 := Nat.le_zero.1 (hz i ▸ hcount hno i)
  refine ⟨fun he => ?_, fun hs => ?_, ?_⟩
  · rw [hpass] at he
    exact hzero (by obtain he | he := he <;> rw [he] <;> nofun) (h.ended he)
  · rw [hpass] at hs
    obtain ⟨hst, hz, hfull⟩ := h.summary hs
    exact ⟨by rw [hpass]; exact hst, hzero (by rw [hst]; nofun) hz, hroom.trans hfull⟩
  · rw [hwaiting, State.summariesWaiting, hpass, ← State.summariesWaiting, hroom]
    exact h.notices

/-- Events hold the pass. -/
theorem Event.passHeld {s t : State} (h : Event s t) (hs : s.PassHeld) : t.PassHeld := by
  induction h with
  | sites h _ hcount => exact hs.congr h.pass (by rw [h.ret]) (by rw [h.notice]) hcount
  | drawn s n => exact hs.congr (Eq.refl _) (Eq.refl _) (Eq.refl _) fun _ _ => Nat.le_refl _
  | raise s f => exact hs.raiseFlag f
  | report s f hroom hsum => exact hs.enqueueReport f hroom hsum
  | missed s n => exact hs.congr (Eq.refl _) (Eq.refl _) (Eq.refl _) fun _ _ => Nat.le_refl _
  | settle s => exact settleDrain_held hs
  | depart s i =>
    have h := departure_only s i
    refine hs.congr h.pass (by rw [h.ret]) (by rw [h.notice]) fun _ j => ?_
    rw [State.site_departure]
    split <;> exact Nat.le_refl _
  | trans _ _ ih ih' => exact ih' (ih hs)

/-- Whether a drain is complete depends on the pass and the counted entries. -/
theorem drainDone_congr {s t : State} (hpass : t.pass = s.pass)
    (hcount : s.pass.state = .closing → ∀ i, countedIn (t.site i).queue = countedIn (s.site i).queue)
    (h : s.drainDone = false) : t.drainDone = false := by
  rw [← Bool.not_eq_true, State.drainDone_iff] at h ⊢
  rw [hpass]
  rintro ⟨⟨hst, hsum⟩, hz⟩
  exact h ⟨⟨hst, hsum⟩, fun i => (hcount hst i).symm.trans (hz i)⟩

/-- A flag set leaves a drain as it is. -/
theorem raiseFlag_drainDone {s : State} (f : NoticeFlag) (h : s.drainDone = false) : (s.raiseFlag f).drainDone = false :=
  drainDone_congr (s.raiseFlag_pass f) (fun _ i => by rw [State.raiseFlag_site]) h

/-- SITE_DROPPED after discards leaves no drain complete: it is ended beside the notice where counted entries were among them, else nothing was counted before either (R100). -/
theorem raiseDropped_drainDone {s t : State} {drains : Bool} (hpass : t.pass = s.pass) (h : s.drainDone = false)
    (hcount : drains = false → ∀ i, countedIn (t.site i).queue = countedIn (s.site i).queue) :
    (t.raiseDropped drains).drainDone = false := by
  unfold State.raiseDropped
  split
  · split
    · exact settleDrain_settles _
    · exact raiseFlag_drainDone _ (settleDrain_settles _)
  next hno =>
    refine raiseFlag_drainDone _ ?_
    cases hd : drains with
    | false => exact drainDone_congr hpass (fun _ => hcount hd) h
    | true =>
      rw [hd, Bool.true_and] at hno
      exact Bool.eq_false_iff.2 hno

/-- A drop with its departure leaves the pass alone. -/
theorem leaveDropped_pass (s : State) (i : SiteNo) (c : DropCause) : (s.leaveDropped i c).pass = s.pass :=
  (departure_only _ i).pass.trans (vacate_only _ i).pass

/-- A STATUS word leaves no drain complete (R39, R96, R100). -/
theorem takeStatus_drainDone {s : State} (i : SiteNo) (bits : Byte) (h : s.drainDone = false) :
    (s.takeStatus i bits).drainDone = false := by
  have hsite (t : State) (ht : t.drainDone = false) {f : Site → Site} (hf : (f (t.site i)).queue = (t.site i).queue) :
      (t.onSite i f).drainDone = false :=
    drainDone_congr (onSite_only t i f).pass (fun _ j => by
      rw [State.site_onSite]
      split
      next e => subst e; rw [hf]
      next => rfl) ht
  have hdrop (t : State) (ht : t.drainDone = false) : (t.headFaultDrop i).drainDone = false := by
    unfold State.headFaultDrop
    split
    · refine raiseDropped_drainDone (leaveDropped_pass t i _) ht fun hc j => ?_
      have hnone : countedIn (t.site i).queue = 0 := by simpa using hc
      rw [State.site_leaveDropped]
      split
      next e => subst e; rw [hnone]; rfl
      next => rfl
    · exact raiseFlag_drainDone _ (hsite t ht rfl)
    · exact ht
    · exact ht
  have htaken : (s.takeHeadStatus i bits).drainDone = false := by
    unfold State.takeHeadStatus
    dsimp only
    split
    · exact hsite s h rfl
    · exact raiseFlag_drainDone _ (hsite _ (hsite s h (f := fun x => { x with current := bits }) rfl) rfl)
  unfold State.takeStatus
  dsimp only
  split
  · exact hdrop _ htaken
  · exact htaken

/-- SET SITES leaves the queue to the discards. -/
theorem Site.setSite_queue (x : Site) (inPass on d : Bool) : (x.setSite inPass on d).queue = x.queue := by
  unfold Site.setSite
  dsimp only
  split
  · split <;> rfl
  · rfl
  · rfl
  · split <;> rfl

/-- SET SITES leaves no drain complete (R54, R96, R100). -/
theorem applySites_drainDone {s : State} (enable drop : Half) (h : s.drainDone = false) :
    (s.applySites enable drop).drainDone = false := by
  have hpass : (s.departed enable drop).pass = s.pass :=
    (departures_only _ _).pass.trans (vacated_only s enable drop).pass
  have hcount (hd : s.discards enable = false) (j : SiteNo) :
      countedIn ((s.departed enable drop).site j).queue = countedIn (s.site j).queue := by
    have hj := List.any_eq_false.1 hd j (mem_allSites j)
    rw [State.site_departed]
    dsimp only
    split
    next hl =>
      have hnone : countedIn (s.site j).queue = 0 := by simpa [hl] using hj
      rw [hnone]; rfl
    next => rw [Site.setSite_queue]
  rw [State.applySites_eq]
  split
  · exact raiseDropped_drainDone hpass h hcount
  · split
    · exact settleDrain_settles _
    next hd => exact drainDone_congr hpass (fun _ => hcount (Bool.eq_false_iff.2 hd)) h

/-- Every act of sites and slots leaves no drain complete (R55, R96). -/
theorem SiteAct.drainDone {reads : SiteNo → Prop} {s t : State} (h : SiteAct reads s t) (hs : s.drainDone = false) :
    t.drainDone = false := by
  cases h with
  | age => exact drainDone_congr (s := s) (Eq.refl _) (fun _ i => by rw [State.ageAll_site]; exact countedIn_ageQueue _) hs
  | expireAll =>
    unfold State.expireAll
    split
    · exact settleDrain_settles _
    · exact hs
  | expire i => exact settleDrain_settles _
  | issue c p =>
    exact drainDone_congr (issueWhere_only s c p).pass (fun hc => issueWhere_counted c p (by rw [hc]; nofun)) hs
  | between c p => exact settleDrain_settles _
  | read i tag data =>
    have hafter (t : State) (lost : List Entry) (shows : Bool) (act : State → State) :
        (t.afterRemoval i lost shows act).drainDone = false := by
      obtain ⟨e, -⟩ | ⟨-, e | e⟩ := afterRemoval_cases t i lost shows act <;> rw [e] <;> exact settleDrain_settles _
    obtain e | ⟨older, newer, x, -, e⟩ | ⟨older, newer, -, -, e⟩ := s.takeReadData_cases i tag data <;> rw [e]
    · refine drainDone_congr (onSite_only s i _).pass (fun _ j => ?_) hs
      rw [State.site_stray]
      split <;> rfl
    · exact hafter _ _ _ _
    · exact hafter _ _ _ _
  | status i bits => exact takeStatus_drainDone i bits hs
  | setSites enable drop => exact applySites_drainDone enable drop hs
  | request i =>
    unfold State.holdRequest
    split
    · split
      · exact drainDone_congr (grant_only s i).pass (fun _ j => by rw [site_grant]; split <;> rfl) hs
      · exact drainDone_congr (onSite_only s i _).pass (fun _ j => by rw [State.site_onSite]; split <;> rfl) hs
    · exact hs
  | release i => exact drainDone_congr (onSite_only s i _).pass (fun _ j => by rw [State.holdRelease, State.site_onSite]; split <;> rfl) hs
  | settle => exact settleDrain_settles s
  | raise f => exact raiseFlag_drainDone f hs

/-- The pass, its summaries and the pending notices at rest between steps (R96, R98, R160, R168). -/
structure State.PassRests (s : State) : Prop where
  fit : s.ReportsFit
  held : s.PassHeld
  settled : s.drainDone = false

/-- What the rest of the pass depends on. -/
theorem State.PassRests.congr {s t : State} (h : s.PassRests) (hpass : t.pass = s.pass)
    (hreports : t.ret.reports = s.ret.reports) (hwaiting : t.notice.waiting = s.notice.waiting)
    (hcount : ∀ i, countedIn (t.site i).queue = countedIn (s.site i).queue) : t.PassRests where
  fit := by unfold State.ReportsFit; rw [hreports, hwaiting]; exact h.fit
  held := h.held.congr hpass hreports hwaiting fun _ i => (hcount i).le
  settled := drainDone_congr hpass (fun _ => hcount) h.settled

/-- A flag set leaves the pass at rest. -/
theorem State.PassRests.raiseFlag {s : State} (h : s.PassRests) (f : NoticeFlag) : (s.raiseFlag f).PassRests :=
  ⟨h.fit.raiseFlag f, h.held.raiseFlag f, raiseFlag_drainDone f h.settled⟩

/-- A part without a pass, without reports and with no entry queued is at rest. -/
theorem State.PassRests.ofReset {t : State} (hpass : t.pass = {}) (hreports : t.ret.reports = [])
    (hwaiting : t.notice.waiting = []) (hqueue : ∀ i, (t.site i).queue = []) : t.PassRests := by
  refine ⟨?_, ⟨fun _ i => by rw [hqueue i]; rfl, fun hs => ?_, .inl hwaiting⟩, Bool.eq_false_iff.2 fun hd => ?_⟩
  · unfold State.ReportsFit
    rw [hreports, hwaiting]
    exact ⟨Nat.zero_le _, List.nodup_nil⟩
  · rw [hpass] at hs; exact absurd rfl hs
  · obtain ⟨⟨hst, -⟩, -⟩ := (State.drainDone_iff _).1 hd
    rw [hpass] at hst
    exact nomatch hst

/-- The link loss leaves the pass at rest (R53, R96). -/
theorem linkLoss_rests {s : State} (h : s.PassRests) : s.linkLoss.PassRests := by
  have hbegun : s.lossBegun.PassRests := h.congr rfl rfl rfl fun _ => rfl
  have hevent := linkLoss_event s
  refine ⟨hevent.reportsFit hbegun.fit, hevent.passHeld hbegun.held, ?_⟩
  have hpark (t : State) (ht : t.drainDone = false) : (forSites (fun i t => t.parkPort i) t).drainDone = false :=
    forSites_keeps (P := fun u => u.drainDone = false) (fun i u hu =>
      drainDone_congr (parkPort_only u i).pass (fun _ j => by rw [site_parkPort]; split <;> rfl) hu) ht
  refine hpark s.lossBegun.flushAll ?_
  unfold State.flushAll
  dsimp only
  split
  · exact settleDrain_settles _
  next hheld =>
    have hempty (i : SiteNo) : (s.site i).queue = [] := by
      have hi := List.any_eq_false.1 (Bool.eq_false_iff.2 hheld) i (mem_allSites i)
      have hsame : (s.lossBegun.site i).queue = (s.site i).queue := rfl
      simpa [hsame] using hi
    refine forSites_keeps (P := fun u => u.drainDone = false) (fun i u hu => ?_) ?_
    · split
      · exact hu
      · exact drainDone_congr (grantIfEmpty_only u i).pass (fun _ j => by
          rw [State.site_grantIfEmpty_eq]
          split
          · rw [(Site.grantedIfEmpty_keeps _).1]
          · rfl) hu
    · refine drainDone_congr (s := s) rfl (fun _ i => ?_) h.settled
      rw [State.site_onSites, Site.flushed, losing_spec, hempty i]
      split <;> rfl

/-- A freed place that is filled leaves the pass at rest (R160). -/
theorem fillPlace_rests {s t : State} (h : s.PassRests) (hpass : t.pass = s.pass) (hwaiting : t.notice.waiting = s.notice.waiting)
    (hsites : t.sites = s.sites) {f : Frame} (hreports : s.ret.reports = f :: t.ret.reports) : t.fillPlace.PassRests := by
  have hsite (i : SiteNo) : t.site i = s.site i := State.site_congr hsites i
  have hfit : t.ReportsFit := by
    obtain ⟨hlen, hnodup⟩ := h.fit
    rw [hreports, List.length_cons] at hlen
    exact ⟨Nat.le_of_succ_le hlen, hwaiting ▸ hnodup⟩
  have hdone : t.drainDone = false := drainDone_congr hpass (fun _ i => by rw [hsite]) h.settled
  have hfull (hf : s.reportRoom = false) : t.ret.reports.length = 31 := by
    have hlen := h.fit.1
    rw [← Bool.not_eq_true, State.reportRoom_iff, hreports, List.length_cons] at hf
    rw [hreports, List.length_cons] at hlen
    omega
  have hroom (hf : s.reportRoom = false) : t.reportRoom = true := by rw [State.reportRoom_iff, hfull hf]; decide
  have hrefilled (hf : s.reportRoom = false) (g : Frame) (u : State) (hu : u.ret.reports = t.ret.reports ++ [g]) :
      u.reportRoom = false := by
    rw [← Bool.not_eq_true, State.reportRoom_iff, hu, List.length_append, hfull hf, List.length_singleton]; decide
  unfold State.fillPlace
  split
  next hw =>
    have hsum : s.pass.summary ≠ none := by
      rw [State.summariesWaiting, hpass] at hw
      intro e; rw [e] at hw; exact nomatch hw
    obtain ⟨hst, hzero, hf⟩ := h.held.summary hsum
    obtain ⟨-, hsettled⟩ | ⟨i, hi, -, ⟨-, e⟩ | ⟨-, e⟩⟩ := enqueueSummary_cases t
    · obtain hsettled | hsettled := hsettled
      · rw [hpass] at hsettled; exact absurd hsettled hsum
      · rw [hroom hf] at hsettled; exact nomatch hsettled
    · have hz : ∀ k, countedIn ((t.enqueueReport (t.summaryFrame i)).site k).queue = 0 := fun k => by
        show countedIn (t.site k).queue = 0
        rw [hsite]; exact hzero k
      obtain ⟨hheld, hclosed, -⟩ := passClosed_held hz
      refine ⟨hfit.enqueueSummary, e ▸ hheld, Bool.eq_false_iff.2 fun hd => ?_⟩
      obtain ⟨⟨hclosing, -⟩, -⟩ := (State.drainDone_iff _).1 hd
      rw [e, hclosed] at hclosing
      exact nomatch hclosing
    · refine ⟨hfit.enqueueSummary, ?_, ?_⟩
      · rw [e]
        refine ⟨fun he => ?_, fun _ => ⟨by show t.pass.state = _; rw [hpass, hst], fun k => ?_, ?_⟩, .inr (.inl rfl)⟩
        · have hst' : t.pass.state = .closing := by rw [hpass, hst]
          change t.pass.state = _ ∨ t.pass.state = _ at he
          rw [hst'] at he
          obtain he | he := he <;> exact nomatch he
        · show countedIn (t.site k).queue = 0
          rw [hsite]; exact hzero k
        · exact hrefilled hf (t.summaryFrame i) _ rfl
      · rw [e]
        refine Bool.eq_false_iff.2 fun hd => ?_
        obtain ⟨⟨-, hnone⟩, -⟩ := (State.drainDone_iff _).1 hd
        exact nomatch hnone
  next hw =>
    have hsum : t.summariesWaiting = false := Bool.eq_false_iff.2 hw
    have hnosum : s.pass.summary = none := by
      rw [State.summariesWaiting, hpass] at hsum
      simpa using hsum
    have hended : t.pass.state = .idle ∨ t.pass.state = .closed → ∀ i, countedIn (t.site i).queue = 0 := fun he i => by
      rw [hsite]; rw [hpass] at he; exact h.held.ended he i
    refine ⟨hfit.admitNotice, ?_, ?_⟩
    · cases hwt : t.notice.waiting with
      | nil =>
        rw [admitNotice_of_settled (.inl hwt)]
        exact ⟨hended, fun hs => absurd (hpass ▸ hnosum) hs, .inl hwt⟩
      | cons g rest =>
        have hf : s.reportRoom = false := by
          obtain hn | hn | hn := h.held.notices
          · rw [← hwaiting, hwt] at hn; exact nomatch hn
          · rw [State.summariesWaiting, hnosum] at hn; exact nomatch hn
          · exact hn
        rw [admitNotice_of_room hwt (hroom hf) hsum]
        exact ⟨hended, fun hs => absurd (hpass ▸ hnosum) hs, .inr (.inr (hrefilled hf _ _ rfl))⟩
    · obtain e | ⟨g, rest, -, -, -, e⟩ := admitNotice_cases t <;> rw [e]
      · exact hdone
      · exact drainDone_congr (s := t) rfl (fun _ _ => rfl) hdone

/-- Every act leaves the pass at rest (R95 to R101, R160, R168). -/
theorem Act.passRests {loads : Prop} {reads : SiteNo → Prop} {s t : State} (h : Act loads reads s t) (hs : s.PassRests) :
    t.PassRests := by
  cases h with
  | calm h => exact hs.congr h.pass h.reports h.waiting fun i => by rw [h.site i]
  | site h => exact ⟨h.event.reportsFit hs.fit, h.event.passHeld hs.held, h.drainDone hs.settled⟩
  | cal h =>
    obtain ⟨u, hu, e⟩ := h.changes
    have hrests : u.PassRests :=
      hs.congr hu.runs.pass (by rw [hu.runs.ret]) (by rw [hu.runs.notice]) fun i => by rw [hu.site i]
    obtain rfl | rfl := e
    · exact hrests
    · exact hrests.raiseFlag _
  | link h =>
    obtain ⟨l, b, rfl | rfl⟩ := h.changes
    · exact hs.congr rfl rfl rfl fun _ => rfl
    · apply State.PassRests.raiseFlag
      exact hs.congr rfl rfl rfl fun _ => rfl
  | loss l => exact linkLoss_rests (s := { s with link := l }) (hs.congr rfl rfl rfl fun _ => rfl)
  | powerOn => exact .ofReset rfl rfl rfl fun i => by rw [State.site_powerOn]
  | lineReset =>
    refine .ofReset ?_ ?_ ?_ fun i => by rw [State.site_lineReset]
    all_goals simp [State.lineReset]
  | partReset =>
    refine .ofReset ?_ ?_ ?_ fun i => by rw [State.site_partReset]
    all_goals simp [State.partReset]
  | write id index b c hw =>
    rw [writeEntry_tables s t id index b c hw]
    exact hs.congr rfl rfl rfl fun _ => rfl
  | openPass n hl hp =>
    refine ⟨hs.fit, ⟨fun he => ?_, fun h => absurd rfl h, ?_⟩, ?_⟩
    · obtain he | he := he <;> exact nomatch he
    · obtain hw | hw | hw := hs.held.notices
      · exact .inl hw
      · have hsum : s.pass.summary ≠ none := by
          rw [State.summariesWaiting] at hw
          intro e; rw [e] at hw; exact nomatch hw
        have hclosing := (hs.held.summary hsum).1
        rw [hclosing] at hp
        obtain hp | hp := hp <;> exact nomatch hp
      · exact .inr (.inr hw)
    · refine Bool.eq_false_iff.2 fun hd => ?_
      obtain ⟨⟨hst, -⟩, -⟩ := (State.drainDone_iff _).1 hd
      exact nomatch hst
  | closePass f hopen =>
    have hnosum : s.pass.summary = none := by
      by_contra hsum
      rw [(hs.held.summary hsum).1] at hopen
      exact nomatch hopen
    have hclosing : (s.closing.enqueueResponse f).PassHeld := by
      refine ⟨fun he => ?_, fun h => absurd hnosum h, hs.held.notices⟩
      obtain he | he := he <;> exact nomatch he
    exact ⟨State.ReportsFit.settleDrain (s := s.closing.enqueueResponse f) hs.fit, settleDrain_held hclosing, settleDrain_settles _⟩
  | respond f => exact hs.congr rfl rfl rfl fun _ => rfl
  | takeReturn f =>
    obtain e | ⟨n, e⟩ | ⟨-, held, e⟩ | e := takeReturn_cases s f <;> rw [e]
    · exact hs
    · exact hs.congr rfl rfl rfl fun _ => rfl
    · exact hs.congr rfl rfl rfl fun _ => rfl
    · exact hs.raiseFlag _
  | returnSlot =>
    obtain ⟨f, e⟩ | e | ⟨f, rest, -, e⟩ | ⟨f, rest, -, e⟩ | ⟨f, rest, -, hrep, e⟩ := returnSlot_cases s <;> rw [e]
    · exact hs.congr rfl rfl rfl fun _ => rfl
    · exact hs
    · exact hs.congr rfl rfl rfl fun _ => rfl
    · exact hs.congr rfl rfl rfl fun _ => rfl
    · exact fillPlace_rests hs rfl rfl rfl hrep
  | summary =>
    rw [enqueueSummary_of_settled]
    · exact hs
    · by_cases hsum : s.pass.summary = none
      · exact .inl hsum
      · exact .inr (hs.held.summary hsum).2.2
  | notify => rw [admitNotice_of_settled hs.held.notices]; exact hs

end Sys2Proof.Machine
end

section
/-! PROOFS. The Link Receiver in each of its states, and all checks at once (O58). -/

namespace Sys2Proof.Machine

/-- What the Link Receiver holds in LIVE (R134 to R137). -/
structure LinkRx.Live (l : LinkRx) : Prop where
  k : ∃ k p, l.k = some k ∧ l.position = some p ∧ validK k = true ∧ p < k.toNat
  candidate : l.candidate = none
  missRun : l.missRun ≤ 1
  errorRun : l.errorRun ≤ 3

/-- What the Link Receiver holds outside LIVE: no position, no runs (R133, R138). -/
structure LinkRx.Unaligned (l : LinkRx) : Prop where
  position : l.position = none
  missRun : l.missRun = 0
  errorRun : l.errorRun = 0

/-- What the Link Receiver holds in each state, DOWN while CRST_N is asserted (R133 to R138, R150). -/
structure LinkRx.Rests (l : LinkRx) : Prop where
  crst : l.crst = true → l.state = .down
  live : l.state = .live → l.Live
  unaligned : l.state ≠ .live → l.Unaligned
  down : l.state = .down → l.candidate = none

/-- The check of the Link Receiver is that it rests. -/
theorem State.linkSettled_iff (s : State) : s.linkSettled = true ↔ s.link.Rests := by
  unfold State.linkSettled
  constructor
  · intro h
    simp only [Bool.and_eq_true, Bool.or_eq_true, Bool.not_eq_true', beq_iff_eq] at h
    obtain ⟨hcrst, h⟩ := h
    have hdown : s.link.crst = true → s.link.state = .down := fun e => hcrst.resolve_left (by rw [e]; nofun)
    cases hs : s.link.state with
    | live =>
      rw [hs] at h
      simp only [Bool.and_eq_true, decide_eq_true_eq, Option.isNone_iff_eq_none] at h
      obtain ⟨⟨⟨hk, hc⟩, hm⟩, he⟩ := h
      refine ⟨hdown, fun _ => ⟨?_, hc, hm, he⟩, fun hn => absurd hs hn, fun hn => (nomatch hs.symm.trans hn)⟩
      cases hk' : s.link.k <;> cases hp : s.link.position <;> simp_all
    | seek =>
      rw [hs] at h
      simp only [Bool.and_eq_true, beq_iff_eq, Option.isNone_iff_eq_none] at h
      obtain ⟨⟨hp, hm⟩, he⟩ := h
      exact ⟨hdown, fun hn => (nomatch hs.symm.trans hn), fun _ => ⟨hp, hm, he⟩, fun hn => (nomatch hs.symm.trans hn)⟩
    | down =>
      rw [hs] at h
      simp only [Bool.and_eq_true, beq_iff_eq, Option.isNone_iff_eq_none] at h
      obtain ⟨⟨⟨hp, hc⟩, hm⟩, he⟩ := h
      exact ⟨hdown, fun hn => (nomatch hs.symm.trans hn), fun _ => ⟨hp, hm, he⟩, fun _ => hc⟩
  · rintro ⟨hcrst, hlive, hunaligned, hdown⟩
    have hline : (!s.link.crst || s.link.state == .down) = true := by
      cases hc : s.link.crst
      · rfl
      · rw [hcrst hc]; rfl
    rw [hline, Bool.true_and]
    cases hs : s.link.state with
    | live =>
      obtain ⟨⟨k, p, hk, hp, hv, hlt⟩, hc, hm, he⟩ := hlive hs
      simp [hk, hp, hv, hlt, hc, hm, he]
    | seek =>
      obtain ⟨hp, hm, he⟩ := hunaligned (by rw [hs]; nofun)
      simp [hp, hm, he]
    | down =>
      obtain ⟨hp, hm, he⟩ := hunaligned (by rw [hs]; nofun)
      simp [hp, hm, he, hdown hs]

/-- What the rest of the Link Receiver depends on. -/
theorem LinkRx.Rests.congr {l m : LinkRx} (h : l.Rests) (e : m = { l with
    signal := m.signal, syqIn := m.syqIn, checkErrors := m.checkErrors
    unknownKinds := m.unknownKinds, exerciseErrors := m.exerciseErrors }) : m.Rests := by
  obtain ⟨hcrst, hlive, hunaligned, hdown⟩ := h
  rw [e]
  refine ⟨hcrst, fun hs => ?_, fun hs => ?_, hdown⟩
  · obtain ⟨hk, hc, hm, he⟩ := hlive hs; exact ⟨hk, hc, hm, he⟩
  · obtain ⟨hp, hm, he⟩ := hunaligned hs; exact ⟨hp, hm, he⟩

/-- A frame counted in LIVE that completes no loss leaves the Link Receiver as LIVE holds it (R136, R137). -/
theorem LinkRx.Live.count {l : LinkRx} (h : l.Live) (a : Arrival) (hd : (l.count a).lossDue = false) : (l.count a).Live := by
  obtain ⟨⟨k, p, hk, hp, hv, hlt⟩, hc, -, -⟩ := h
  have hruns : (l.count a).missRun < 2 ∧ (l.count a).errorRun < 4 := by
    simpa [LinkRx.lossDue] using hd
  refine ⟨⟨k, _, hk, rfl, hv, ?_⟩, hc, Nat.le_of_lt_succ hruns.1, Nat.le_of_lt_succ hruns.2⟩
  rw [LinkRx.nextPosition, hk, Option.getD_some]
  exact Nat.mod_lt _ (Nat.zero_lt_of_lt hlt)

/-- Every act of the Link Receiver leaves it at rest (R133 to R138). -/
theorem LinkAct.rests {s t : State} (h : LinkAct s t) (hs : s.link.Rests) : t.link.Rests := by
  have hfree (hne : s.link.state ≠ .down) : s.link.crst = false :=
    Bool.eq_false_iff.2 fun hc => hne (hs.crst hc)
  cases h with
  | release =>
    refine ⟨nofun, fun hl => ?_, fun hl => ?_, hs.down⟩
    · obtain ⟨hk, hc, hm, he⟩ := hs.live hl; exact ⟨hk, hc, hm, he⟩
    · obtain ⟨hp, hm, he⟩ := hs.unaligned hl; exact ⟨hp, hm, he⟩
  | up hdown hcrst =>
    obtain ⟨hp, hm, he⟩ := hs.unaligned (by rw [hdown]; nofun)
    exact ⟨fun hc => (nomatch hcrst.symm.trans hc), nofun, fun _ => ⟨hp, hm, he⟩, nofun⟩
  | down hseek =>
    obtain ⟨hp, hm, he⟩ := hs.unaligned (by rw [hseek]; nofun)
    exact ⟨fun _ => rfl, nofun, fun _ => ⟨hp, hm, he⟩, fun _ => rfl⟩
  | count a hlive hd =>
    refine ⟨fun hc => ?_, fun _ => (hs.live hlive).count a hd, fun hn => absurd hlive hn, fun hn => ?_⟩
    · rw [show (s.link.count a).crst = s.link.crst from rfl, hfree (by rw [hlive]; nofun)] at hc
      exact nomatch hc
    · exact nomatch hlive.symm.trans hn
  | search a hseek =>
    obtain ⟨hp, hm, he⟩ := hs.unaligned (by rw [hseek]; nofun)
    have hcrst := hfree (by rw [hseek]; nofun)
    have hheld (c : Option (Byte × Nat)) : LinkRx.Rests { s.link with candidate := c } :=
      ⟨fun hc => (nomatch hcrst.symm.trans hc), fun hl => (nomatch hseek.symm.trans hl), fun _ => ⟨hp, hm, he⟩,
        fun hn => (nomatch hseek.symm.trans hn)⟩
    have henter (k count : Byte) (hv : validK k = true) : (s.enterLive k count).link.Rests := by
      have hlink : (s.enterLive k count).link = { s.link with
          state := .live, k := some k, position := some 0, lastCount := some count
          candidate := none, missRun := 0, errorRun := 0 } := by
        unfold State.enterLive
        dsimp only
        split
        · exact (raiseFlag_only _ _).link
        · rfl
      have hpos : 0 < k.toNat := by
        simp only [validK, Bool.and_eq_true, decide_eq_true_eq] at hv
        omega
      rw [hlink]
      exact ⟨fun hc => (nomatch hcrst.symm.trans hc),
        fun _ => ⟨⟨k, 0, rfl, rfl, hv, hpos⟩, rfl, Nat.zero_le _, Nat.zero_le _⟩, fun hn => absurd rfl hn, nofun⟩
    unfold State.seekSlot
    dsimp only
    split
    · split
      next hv =>
        split
        · exact henter _ _ hv
        · exact hheld _
      · exact hheld _
    · exact hheld _

/-- Every act leaves the Link Receiver at rest (R133 to R138, R150). -/
theorem Act.linkRests {loads : Prop} {reads : SiteNo → Prop} {s t : State} (h : Act loads reads s t) (hs : s.link.Rests) :
    t.link.Rests := by
  have hkept (e : t.link = s.link) : t.link.Rests := e ▸ hs
  cases h with
  | calm h => exact hs.congr h.link
  | site h => exact hkept h.event.toLocal.link
  | cal h => exact hkept h.toLocal.link
  | link h => exact h.rests hs
  | loss l hlive hcrst =>
    rw [State.linkLoss_link]
    refine ⟨fun hc => ?_, nofun, fun _ => ⟨rfl, rfl, rfl⟩, nofun⟩
    have hdown := hs.crst (hcrst.symm.trans hc)
    exact nomatch hlive.symm.trans hdown
  | powerOn => exact ⟨fun _ => rfl, nofun, fun _ => ⟨rfl, rfl, rfl⟩, fun _ => rfl⟩
  | lineReset => exact ⟨fun _ => rfl, nofun, fun _ => ⟨rfl, rfl, rfl⟩, fun _ => rfl⟩
  | partReset => exact hs.congr rfl
  | write id index b c hw => exact hkept (by rw [writeEntry_tables s t id index b c hw])
  | openPass n => exact hs
  | closePass f => exact hkept (by rw [(settleDrain_only _).link]; rfl)
  | respond f => exact hs
  | takeReturn f =>
    refine hkept ?_
    obtain e | ⟨n, e⟩ | ⟨-, held, e⟩ | e := takeReturn_cases s f <;> rw [e]
    rw [(raiseFlag_only _ _).link]
  | returnSlot =>
    refine hkept ?_
    obtain ⟨f, e⟩ | e | ⟨f, rest, -, e⟩ | ⟨f, rest, -, e⟩ | ⟨f, rest, -, -, e⟩ := returnSlot_cases s <;> rw [e]
    · rfl
    · rw [(fillPlace_only _).link]
  | summary => exact hkept (enqueueSummary_only s).link
  | notify => exact hkept (admitNotice_only s).link

/-- A part at rest: every check of Safety.lean, read apart. -/
structure State.Sound (s : State) : Prop where
  tables : s.tablesInRange = true
  buffers : s.buffersBounded = true
  order : s.queuesInOrder = true
  records : s.recordsSound = true
  quiet : s.queuesQuiet = true
  pass : s.PassRests
  paired : s.Paired
  rests : s.Rests
  link : s.link.Rests

/-- All checks at once are that the part is at rest. -/
theorem State.sound_iff (s : State) : s.sound = true ↔ s.Sound := by
  unfold State.sound
  simp only [Bool.and_eq_true]
  constructor
  · rintro ⟨⟨⟨⟨⟨⟨⟨⟨⟨htables, hbuffers⟩, horder⟩, hrecords⟩, hquiet⟩, hpass⟩, hnotices⟩, hpaired⟩, hrotation⟩, hlink⟩
    obtain ⟨hheld, hdone⟩ := s.passSettled_iff.1 ⟨hpass, hnotices⟩
    rw [State.calPaired_iff] at hpaired
    exact ⟨htables, hbuffers, horder, hrecords, hquiet, ⟨(s.buffersBounded_iff.1 hbuffers).2.1, hheld, hdone⟩, hpaired,
      (State.rotationSettled_iff hpaired).1 hrotation, s.linkSettled_iff.1 hlink⟩
  · rintro ⟨htables, hbuffers, horder, hrecords, hquiet, ⟨-, hheld, hdone⟩, hpaired, hrests, hlink⟩
    obtain ⟨hpass, hnotices⟩ := s.passSettled_iff.2 ⟨hheld, hdone⟩
    exact ⟨⟨⟨⟨⟨⟨⟨⟨⟨htables, hbuffers⟩, horder⟩, hrecords⟩, hquiet⟩, hpass⟩, hnotices⟩, s.calPaired_iff.2 hpaired⟩,
      (State.rotationSettled_iff hpaired).2 hrests⟩, s.linkSettled_iff.2 hlink⟩

/-- Every act keeps buffers and queue orders (R43, R44, R52, R156). -/
theorem Act.buffers {loads : Prop} {reads : SiteNo → Prop} {s t : State} (h : Act loads reads s t)
    (hb : s.buffersBounded = true) (ho : s.queuesInOrder = true) : t.buffersBounded = true ∧ t.queuesInOrder = true := by
  rw [State.buffersBounded_iff] at hb ⊢
  rw [State.queuesInOrder_iff] at ho ⊢
  obtain ⟨hframes, hreports, hsites⟩ := hb
  exact ⟨⟨h.framesFit hframes, h.reportsFit hreports, fun i => (h.move i).fits (hsites i)⟩, fun i => (h.move i).inOrder (ho i)⟩

/-- Every act keeps a sound part sound. -/
theorem Act.sound {loads : Prop} {reads : SiteNo → Prop} {s t : State} (h : Act loads reads s t) (hs : s.Sound) : t.Sound := by
  obtain ⟨hbuffers, horder⟩ := h.buffers hs.buffers hs.order
  obtain ⟨-, -, -, hreload, -⟩ := (Tables.inRange_iff _).1 hs.tables
  exact ⟨h.inRange hs.tables, hbuffers, horder, h.recordsSound hs.tables hs.records, h.queuesQuiet hs.quiet, h.passRests hs.pass,
    h.paired hs.paired, h.rests hs.paired hreload hs.rests, h.linkRests hs.link⟩

/-- Settles O58, by the invariants that every act keeps. -/
theorem soundPartsStaySound : Obligations.SoundPartsStaySound := by
  unfold Obligations.SoundPartsStaySound
  intro s t hs hst
  rw [State.sound_iff] at hs ⊢
  refine step_keeps (P := State.Sound) (fun _ _ _ _ h => h.sound) (fun u l hu => ?_) hst hs
  rw [← State.sound_iff] at hu ⊢
  exact hu

end Sys2Proof.Machine
end

section
/-! PROOFS. One site's events stay at that site (O60): other sites read the same, and the link, the position, the numbering, the responses and the FIFO are not touched. -/

namespace Sys2Proof.Machine

/-- A site other than a run's is left by what calibration does to the run: lanes and flags change at the target only. -/
theorem endRun_site_ne {s : State} {i j : SiteNo} (ht : s.cal.target = some i) (hj : j ≠ i) : s.endRun.site j = s.site j := by
  rw [endRun_of_target s i ht, State.attemptRun_site]
  exact s.site_setSite_ne _ hj

/-- An attempt failure leaves every other site (R123). -/
theorem attemptFailure_site_ne (s : State) {i j : SiteNo} (hj : j ≠ i) : (s.attemptFailure i).site j = s.site j := by
  unfold State.attemptFailure
  dsimp only
  split
  · exact s.site_setSite_ne _ hj
  · rw [State.raiseFlag_site]
    exact s.site_setSite_ne _ hj

/-- The word period of a lane error leaves every other site (R127). -/
theorem comparePeriod_site_ne (s : State) {i j : SiteNo} (p : WordPair) (hj : j ≠ i) :
    (s.comparePeriod i p).site j = s.site j := by
  obtain h | ⟨ht, ⟨-, h⟩ | ⟨-, h⟩ | ⟨-, h⟩ | ⟨-, h⟩⟩ := comparePeriod_cases s i p <;> rw [h]
  · unfold State.trainWords
    dsimp only
    split
    · rfl
    · split
      · exact s.site_setSite_ne _ hj
      · exact endRun_site_ne (s := { s.scanWords [p] with cal := _ }) ht hj
  · unfold State.shadowWords
    dsimp only
    split
    · rfl
    · split
      · exact endRun_site_ne (s := { s with cal := _ }) ht hj
      · rfl
  · unfold State.offlineWords
    dsimp only
    split
    · rfl
    · split
      · exact s.site_setSite_ne _ hj
      · exact attemptFailure_site_ne _ hj
  · unfold State.soakWords
    dsimp only
    split
    · exact attemptFailure_site_ne _ hj
    · split <;> rfl

/-- The word period of a lane error is local (R127). -/
theorem comparePeriod_local (s : State) (i : SiteNo) (p : WordPair) : Local s (s.comparePeriod i p) := by
  obtain h | ⟨-, ⟨hs, h⟩ | ⟨hs, h⟩ | ⟨hs, h⟩ | ⟨hs, h⟩⟩ := comparePeriod_cases s i p <;> rw [h]
  · exact .rfl s
  · exact (CalAct.train s i [p] hs).toLocal
  · exact (CalAct.shadow s i [p] hs).toLocal
  · exact (CalAct.offline s i [p] hs).toLocal
  · exact (CalAct.soak s i [p] hs).toLocal

/-- Settles O60, by the footprint of each event of a site. -/
theorem siteEventsTouchNoOtherSite : Obligations.SiteEventsTouchNoOtherSite := by
  unfold Obligations.SiteEventsTouchNoOtherSite
  intro c s i j hj hc
  have hreach {t : State} (e : exec c s = .next t) (hlocal : Local s.begin t) (hsite : t.site j = s.site j) :
      Reaches (exec c s) fun t =>
        t.site j = s.site j ∧ t.link = s.link ∧ t.chainPos = s.chainPos ∧ t.expander = s.expander ∧ t.cause = s.cause ∧
        t.ret.responses = s.ret.responses ∧ t.ret.fifo = s.ret.fifo :=
    ⟨t, e, hsite, hlocal.link, hlocal.chainPos, hlocal.expander, hlocal.cause, by rw [hlocal.ret]; rfl, by rw [hlocal.ret]; rfl⟩
  cases c <;> try exact hc.elim
  case readDataWord k tag data =>
    obtain rfl : k = i := hc
    exact hreach rfl (takeReadData_event s.begin k tag data).toLocal (takeReadData_site_ne s.begin tag data hj)
  case statusWord k bits =>
    obtain rfl : k = i := hc
    refine hreach rfl (takeStatus_event s.begin k bits).toLocal ?_
    rw [State.site_takeStatus, if_neg hj]
    rfl
  case holdRequestWord k =>
    obtain rfl : k = i := hc
    refine hreach rfl (SiteAct.event (reads := fun _ => True) (.request s.begin k)).toLocal ?_
    unfold State.holdRequest
    split
    · split
      · rw [site_grant, if_neg hj]; rfl
      · exact s.begin.site_onSite_ne _ hj
    · rfl
  case holdReleaseWord k =>
    obtain rfl : k = i := hc
    exact hreach rfl (SiteAct.event (reads := fun _ => True) (.release s.begin k)).toLocal (s.begin.site_onSite_ne _ hj)
  case idleWord k => exact hreach rfl (.rfl _) rfl
  case laneWordError k word =>
    obtain rfl : k = i := hc
    refine hreach rfl ((onSite_only s.begin k _).toLocal.trans (comparePeriod_local (s.begin.laneError k) k word)) ?_
    rw [comparePeriod_site_ne _ word hj]
    exact s.begin.site_onSite_ne _ hj
  case entryExpiry k =>
    obtain rfl : k = i := hc
    by_cases hnone : s.expiredAt k = []
    · exact hreach (congrArg Host.Outcome.next (if_pos hnone)) (.rfl _) rfl
    · refine hreach (congrArg Host.Outcome.next (if_neg hnone))
        (SiteAct.event (reads := fun _ => True) (.expire s.begin k)).toLocal ?_
      rw [State.settleDrain_site, State.site_expireSite, if_neg hj]
      rfl

end Sys2Proof.Machine
end

section
/-! PROOFS. What each reset leaves of the sites, the lanes and the tables (O5, O6), and the Link Receiver outside LIVE (O8). -/

namespace Sys2Proof.Machine

/-- Every site as a reset leaves it: all at the reset value but the status copy, the port parked (R42, R61, R87). -/
def State.SitesReset (t : State) : Prop := ∀ i, t.site i = { current := (t.site i).current, command := .park }

/-- Power-on reset resets every site (R152). -/
theorem State.powerOn_sitesReset (s : State) : s.powerOn.SitesReset := fun i => by rw [State.site_powerOn]

/-- The reset from the line resets every site (R150). -/
theorem State.lineReset_sitesReset (s : State) : s.lineReset.SitesReset := fun i => by rw [State.site_lineReset]

/-- A site after an executed RESET PART (R151). -/
theorem State.site_reqResetPart (s : State) (c : Ctl) (i : SiteNo) :
    (s.reqResetPart c).site i = { current := (s.site i).current, command := .park } := by
  have hsites : (s.reqResetPart c).sites = s.chainReset.sites := by
    simp only [State.reqResetPart, State.partReset, State.answer_sites]
  rw [State.site_congr hsites, State.site_chainReset]

/-- RESET PART resets every site (R151). -/
theorem State.reqResetPart_sitesReset (s : State) (c : Ctl) : (s.reqResetPart c).SitesReset := fun i => by
  rw [State.site_reqResetPart]

/-- The verdict is CLEAN where every region is (R77). -/
theorem Site.verdict_clean {x : Site} (h : ∀ g, (x.records.get g).state = .clean) : x.verdict = .clean := by
  have hno (p : Record → Bool) (hp : ∀ r : Record, r.state = .clean → p r = false) : x.records.toList.any p = false := by
    rw [← Bool.not_eq_true, List.any_eq_true]
    rintro ⟨r, hr, hpr⟩
    obtain ⟨i, hi, rfl⟩ := List.mem_iff_getElem.1 hr
    have hclean := h ⟨i, by simpa using hi⟩
    rw [Vector.getElem_toList] at hpr
    exact nomatch (hp _ hclean).symm.trans hpr
  unfold Site.verdict
  rw [hno _ fun r hr => by rw [hr]; rfl, hno _ fun r hr => by rw [hr]; rfl]
  rfl

/-- Records reset give a CLEAN verdict (R77, R87). -/
theorem State.RecordsReset.verdict {t : State} (h : t.RecordsReset) (i : SiteNo) : (t.site i).verdict = .clean :=
  Site.verdict_clean fun g => by rw [h i g]

/-- What parks a port puts on lanes: PARK, and nothing else (R24). -/
theorem State.chainReset_commands (s : State) :
    ∃ parks : List (SiteNo × SiteCommand), s.chainReset.out.commands = s.out.commands ++ parks ∧ ∀ x ∈ parks, x.2 = .park := by
  have hparks : ∃ parks : List (SiteNo × SiteCommand),
      (forSites (fun i t => t.parkPort i) s).out.commands = s.out.commands ++ parks ∧ ∀ x ∈ parks, x.2 = .park := by
    refine forSites_keeps (P := fun t => ∃ parks : List (SiteNo × SiteCommand), t.out.commands = s.out.commands ++ parks ∧
      ∀ x ∈ parks, x.2 = .park) (fun i t => ?_) ⟨[], by simp, by simp⟩
    rintro ⟨parks, ht, hall⟩
    unfold State.parkPort
    split
    · exact ⟨parks, ht, hall⟩
    · refine ⟨parks ++ [(i, .park)], by simp [State.send, ht], fun x hx => ?_⟩
      obtain hx | hx := List.mem_append.1 hx
      · exact hall x hx
      · rw [List.mem_singleton.1 hx]
  have hout : s.chainReset.out = (forSites (fun i t => t.parkPort i) s).out := by
    unfold State.chainReset; dsimp only
  rw [hout]
  exact hparks

/-- The outputs of the reset from the line are those of its chain reset. -/
theorem State.lineReset_out (s : State) : s.lineReset.out = s.chainReset.out := by simp only [State.lineReset]

/-- The outputs of RESET PART are those of its chain reset. -/
theorem State.reqResetPart_out (s : State) (c : Ctl) : (s.reqResetPart c).out = s.chainReset.out := by
  simp only [State.reqResetPart, State.partReset, State.answer_out]

/-- The cycle numbering after a chain reset (section 1.9). -/
@[simp] theorem State.chainReset_expander (s : State) : s.chainReset.expander = {} := by rw [s.chainReset_eq]

/-- A word answered after a reset is a stray (R47, R61). -/
theorem State.SitesReset.stray {t : State} (h : t.SitesReset) (i : SiteNo) (tag data : Half) :
    Reaches (exec (.readDataWord i tag data) t) fun v => (v.site i).counts.strays = 1 := by
  have hqueue : (t.begin.site i).queue = [] := by show (t.site i).queue = []; rw [h i]
  have hcounts : (t.begin.site i).counts = {} := by show (t.site i).counts = {}; rw [h i]
  refine ⟨t.begin.stray i, congrArg Host.Outcome.next (State.takeReadData_of_stray data fun e he => ?_), ?_⟩
  · rw [hqueue] at he; exact nomatch he
  · show ((t.begin.stray i).site i).counts.strays = 1
    rw [State.site_stray, if_pos rfl, Site.strayed, hcounts]
    rfl

/-- A response leaves every site as it is. -/
@[simp] theorem State.answer_site (s : State) (c : Ctl) (code : Byte) (st : Status) (data : List Byte) (i : SiteNo) :
    (s.answer c code st data).site i = s.site i := rfl

/-- The reset from the line puts nothing but PARK on lanes (R61). -/
theorem State.lineReset_commands {s : State} (h : s.out.commands = []) : ∀ x ∈ s.lineReset.out.commands, x.2 = .park := by
  obtain ⟨parks, hparks, hall⟩ := s.chainReset_commands
  intro x hx
  rw [State.lineReset_out, hparks, h] at hx
  exact hall x hx

/-- The status copy through the slot of a CONTROL frame (R129). -/
theorem State.controlSlot_current (s : State) (c : Ctl) (code : Byte) (params : List Byte) (i : SiteNo) :
    ((s.controlSlot c code params).site i).current = (s.site i).current := by
  rw [State.controlSlot, State.slotOf, State.site_slot]
  rfl

/-- Settles O5, by the records, the sites and the lanes that each reset leaves. -/
theorem recordsQueuesAndFlagsAfterResets : Obligations.RecordsQueuesAndFlagsAfterResets := by
  unfold Obligations.RecordsQueuesAndFlagsAfterResets
  refine ⟨?records, ?queues⟩
  case records =>
    intro cleared
    have hcleared {t : State} (h : t.RecordsReset) : cleared t := fun i g => ⟨h.verdict i, h i g⟩
    refine ⟨fun s => ⟨_, rfl, hcleared s.begin.powerOn_recordsReset, fun g => ?_⟩,
      fun s h => ⟨_, exec_crstAsserted_of_released h, hcleared (State.lineReset_recordsReset _), ?_⟩,
      fun s c params h => ⟨_, exec_resetPart_of_executes params h, hcleared (State.reqResetPart_recordsReset _ c), ?_⟩,
      fun s c number rest h => ?_⟩
    · simp [State.powerOn, Tables.powerOn, Vector.get]
    · simp [State.lineReset, State.begin]
    · rw [(State.reqResetPart_calibrationReset _ c).tables, s.controlSlot_tables]
    · intro u hstate
      have htables : u.tables = s.tables := s.controlSlot_tables c 0x30 (number :: rest)
      have hsite (i : SiteNo) : ((u.reqOpenPass c number).site i).records = mapVector Record.load s.tables.region := by
        rw [State.reqOpenPass_of_admitted c number hstate, State.answer_site, State.site_openPass, htables, Site.openPass]
      have hget (i : SiteNo) (g : RegionNo) : ((u.reqOpenPass c number).site i).records.get g =
          Record.load (s.tables.region.get g) := by rw [hsite, mapVector_get]
      refine ⟨_, exec_openPass_of_executes number rest h, ?_, fun i g => ⟨Site.verdict_clean fun g => by rw [hget]; rfl, hget i g⟩⟩
      rw [State.reqOpenPass_of_admitted c number hstate, State.answer_tables, State.openPass_tables, htables]
  case queues =>
    intro cleared
    have hcleared {t : State} (hsites : t.SitesReset) (hpass : t.pass = {}) (hreports : t.ret.reports = []) : cleared t := by
      refine ⟨fun i => ?_, by rw [hpass], by rw [hpass], hreports, hsites.stray⟩
      rw [hsites i]
      exact ⟨rfl, rfl, rfl, rfl, rfl, nofun⟩
    refine ⟨fun s => ⟨_, rfl, hcleared s.begin.powerOn_sitesReset rfl rfl, rfl⟩, fun s h => ?_, fun s c params h => ?_⟩
    · refine ⟨_, exec_crstAsserted_of_released h, hcleared (State.lineReset_sitesReset _) ?_ ?_, ?_⟩
      · simp [State.lineReset]
      · simp [State.lineReset]
      · exact State.lineReset_commands rfl
    · intro u
      refine ⟨_, exec_resetPart_of_executes params h, hcleared (State.reqResetPart_sitesReset _ c) ?_ ?_, ?_⟩
      · simp
      · rw [State.reqResetPart_ret]
      · rw [State.reqResetPart_out]
        obtain ⟨parks, hparks, hall⟩ := (s.controlSlot c 0x03 params).chainReset_commands
        refine ⟨parks, ?_, hall⟩
        rw [hparks]

/-- Settles O6, by the sites and the tables that each reset leaves. -/
theorem sitePortsTablesAndNumberingAfterResets : Obligations.SitePortsTablesAndNumberingAfterResets := by
  unfold Obligations.SitePortsTablesAndNumberingAfterResets
  refine ⟨?ports, ?tables⟩
  case ports =>
    intro cleared
    have hcleared {t : State} (h : t.SitesReset) : cleared t := fun i => by
      have hparked : t.parked i = true := by rw [State.parked, h i]; simp
      rw [h i]
      exact ⟨rfl, rfl, rfl, rfl, rfl, rfl, hparked, rfl⟩
    refine ⟨fun s => ⟨_, rfl, hcleared s.begin.powerOn_sitesReset, fun i => by rw [State.site_powerOn]⟩,
      fun s h => ⟨_, exec_crstAsserted_of_released h, hcleared (State.lineReset_sitesReset _), fun i => ?_⟩,
      fun s c params h => ⟨_, exec_resetPart_of_executes params h, hcleared (State.reqResetPart_sitesReset _ c), fun i => ?_⟩⟩
    · rw [State.site_lineReset]; rfl
    · simp only [State.site_reqResetPart, State.controlSlot_current]
  case tables =>
    refine ⟨fun s => ⟨_, rfl, ?_⟩, fun s h => ⟨_, exec_crstAsserted_of_released h, ?_⟩,
      fun s c params h => ⟨_, exec_resetPart_of_executes params h, ?_⟩⟩
    · refine ⟨fun k => ?_, fun k => ?_, fun k => ?_, fun k => ?_, fun k => ?_, fun k => ?_, rfl⟩
      all_goals simp [State.powerOn, Tables.powerOn, State.begin, Vector.get]
      rfl
    · exact ⟨by simp [State.lineReset, State.begin], by simp only [State.lineReset, State.chainReset_expander]⟩
    · refine ⟨by rw [(State.reqResetPart_calibrationReset _ c).tables, s.controlSlot_tables], ?_⟩
      simp only [State.reqResetPart, State.partReset, State.answer_expander, State.chainReset_expander]

/-- Settles O8, branch by branch of the receiver's moves. -/
theorem receiverMovesBetweenDownAndSeek : Obligations.ReceiverMovesBetweenDownAndSeek := by
  unfold Obligations.ReceiverMovesBetweenDownAndSeek
  have hpresent (s : State) : exec .signalPresent s = .next s.begin.signalPresent := rfl
  have hreleased (s : State) : exec .crstReleased s = .next s.begin.crstReleased := rfl
  refine ⟨fun s => ⟨fun hs hc => ?_, fun h => ?_, fun hc hs hsig => ?_, fun h => ?_, fun hs => ?_, fun hs => ?_,
    fun hs hc hsig => ⟨?_, ?_⟩⟩, fun asserted s => ⟨rfl, rfl, s.syqOut_iff⟩⟩
  · rw [hpresent, State.signalPresent, if_pos (by exact ⟨hs, hc⟩)]; rfl
  · rw [hpresent, State.signalPresent, if_neg]
    · rfl
    · rintro ⟨h₁, h₂⟩
      obtain h | h := h
      · exact h h₁
      · exact nomatch h.symm.trans h₂
  · rw [hreleased, State.crstReleased, if_pos (by exact ⟨hc, hs, hsig⟩)]; rfl
  · rw [hreleased, State.crstReleased, if_neg]
    · rfl
    · rintro ⟨h₁, h₂, h₃⟩
      obtain h | h | h := h
      · exact nomatch h.symm.trans h₁
      · exact h h₂
      · exact nomatch h.symm.trans h₃
  · show Host.Outcome.next s.begin.signalLost = _
    simp [State.signalLost, State.begin, hs]
  · show Host.Outcome.next s.begin.signalLost = _
    simp [State.signalLost, State.begin, hs]
  · refine ⟨_, hreleased s, _, hpresent _, ?_⟩
    simp [State.signalPresent, State.crstReleased, State.begin, hs, hc, hsig]
  · refine ⟨_, hpresent s, _, hreleased _, ?_⟩
    simp [State.signalPresent, State.crstReleased, State.begin, hs, hc]

end Sys2Proof.Machine
end

section
/-! PROOFS. Good frames acted on in LIVE and the exercise sequence (O15), the translation of an address, of data and of a strobe (O17), hold, IDLE and failed words (O20). -/

namespace Sys2Proof.Machine

/-- A frame that the part acts on: counted, forwarded, every entry aged, then its action (R132, R141). -/
theorem takeFrame_of_actsOn {s : State} {a : Arrival} (f : Frame) (act : State → State) (h : s.actsOn a = true) :
    s.begin.takeFrame f a act = act (State.ageAll { s.begin.forward f a with link := s.link.count a }) := by
  simp only [State.actsOn, Bool.and_eq_true, Bool.not_eq_true', beq_iff_eq] at h
  obtain ⟨hlive, hloss⟩ := h
  exact takeFrame_live s.begin f a act hlive hloss

/-- The link after the slot of a frame: what its counts leave (R132). -/
theorem State.slotOf_link (s : State) (f : Frame) (a : Arrival) : (s.slotOf f a).link = s.link.count a := by
  rw [State.slotOf, State.plainSlot_link]
  rfl

/-- A bit of the generator's register after one step (R142). -/
theorem lfsrStep_getLsbD (r : Half) {j : Nat} (hj : j < 16) : (lfsrStep r).getLsbD j =
    if j = 0 then Bool.xor (Bool.xor (r.getLsbD 15) (r.getLsbD 13)) (Bool.xor (r.getLsbD 12) (r.getLsbD 10))
    else r.getLsbD (j - 1) := by
  unfold lfsrStep
  rw [BitVec.getLsbD_or, BitVec.getLsbD_shiftLeft]
  have hone (b : Bool) : (if b = true then (1 : Half) else 0).getLsbD j = (b && decide (j = 0)) := by
    cases b
    · simp
    · simp [hj]
  rw [hone]
  by_cases h0 : j = 0
  · subst h0; simp
  · have h1 : ¬j < 1 := by omega
    simp [hj, h0, h1]

/-- Before 16 steps the register still holds its starting value's bits, shifted (R142). -/
theorem lfsrStep_iterate_getLsbD (r : Half) (m : Nat) {i : Nat} (hm : m ≤ i) (hi : i < 16) :
    (lfsrStep^[m] r).getLsbD i = r.getLsbD (i - m) := by
  induction m generalizing i with
  | zero => rfl
  | succ m ih =>
    rw [Function.iterate_succ_apply', lfsrStep_getLsbD _ hi, if_neg (by omega), ih (by omega) (by omega)]
    congr 1
    omega

/-- The bits that n steps give, the first on top, with the register after them (R142). -/
theorem lfsr_foldl (r : Half) (n : Nat) (hn : n ≤ 8) :
    let x := (List.range n).foldl
      (fun (x : Byte × Half) _ => ((x.1 <<< 1) ||| (if x.2.getLsbD 15 then 1 else 0), lfsrStep x.2)) (0, r)
    x.2 = lfsrStep^[n] r ∧ ∀ j < n, x.1.getLsbD (n - 1 - j) = (lfsrStep^[j] r).getLsbD 15 := by
  induction n with
  | zero => exact ⟨rfl, nofun⟩
  | succ n ih =>
    obtain ⟨hreg, hbits⟩ := ih (by omega)
    rw [List.range_succ, List.foldl_append, List.foldl_cons, List.foldl_nil]
    dsimp only at hreg hbits ⊢
    generalize (List.range n).foldl
      (fun (x : Byte × Half) _ => ((x.1 <<< 1) ||| (if x.2.getLsbD 15 then 1 else 0), lfsrStep x.2)) (0, r) = x at hreg hbits
    refine ⟨by rw [hreg, Function.iterate_succ_apply'], fun j hj => ?_⟩
    have hone (b : Bool) (k : Nat) : (if b = true then (1 : Byte) else 0).getLsbD k = (b && decide (k = 0)) := by
      cases b
      · simp
      · by_cases hk : k = 0
        · subst hk; simp
        · simp [hk]
    rw [BitVec.getLsbD_or, BitVec.getLsbD_shiftLeft, hone]
    by_cases hlast : j = n
    · subst hlast
      simp [hreg]
    · have hsub : n + 1 - 1 - j - 1 = n - 1 - j := by omega
      have hpos : ¬(n + 1 - 1 - j < 1) := by omega
      have hne : ¬(n + 1 - 1 - j = 0) := by omega
      have hlt : n + 1 - 1 - j < 8 := by omega
      simp only [hlt, hpos, hne, hsub, decide_true, decide_false, Bool.not_false, Bool.true_and, Bool.and_false, Bool.or_false]
      exact hbits j (by omega)

/-- A byte of the generator holds its outputs, the first as the most significant bit (R142). -/
theorem lfsrByte_spec (r : Half) :
    (lfsrByte r).2 = lfsrStep^[8] r ∧ ∀ j < 8, (lfsrByte r).1.getLsbD (7 - j) = (lfsrStep^[j] r).getLsbD 15 :=
  lfsr_foldl r 8 (Nat.le_refl 8)

/-- The bytes generated from a register, one by one (R142). -/
theorem exerciseBytes_getD (n : Nat) (r : Half) {k : Nat} (hk : k < n) :
    (exerciseBytes n r).getD k 0 = (lfsrByte (lfsrStep^[8 * k] r)).1 := by
  induction n generalizing r k with
  | zero => exact absurd hk (Nat.not_lt_zero k)
  | succ n ih =>
    cases k with
    | zero => rfl
    | succ k =>
      have hnext := ih (lfsrByte r).2 (Nat.lt_of_succ_lt_succ hk)
      rw [(lfsrByte_spec r).1, ← Function.iterate_add_apply] at hnext
      exact hnext

/-- As many bytes as asked for. -/
theorem exerciseBytes_length (n : Nat) (r : Half) : (exerciseBytes n r).length = n := by
  induction n generalizing r with
  | zero => rfl
  | succ n ih => exact congrArg Nat.succ (ih _)

/-- The first two bytes of the generator are its starting value, high byte first (R142). -/
theorem exerciseBytes_start (n : Nat) (r : Half) : (exerciseBytes (n + 2) r).take 2 = be16 r := by
  have hbyte (m : Nat) (hm : m ≤ 8) : (lfsrByte (lfsrStep^[m] r)).1 = r.extractLsb' (8 - m) 8 := by
    refine BitVec.eq_of_getLsbD_eq fun i hi => ?_
    have hbit := (lfsrByte_spec (lfsrStep^[m] r)).2 (7 - i) (by omega)
    rw [← Function.iterate_add_apply, lfsrStep_iterate_getLsbD r (7 - i + m) (by omega) (by omega)] at hbit
    rw [show 7 - (7 - i) = i by omega] at hbit
    rw [hbit, BitVec.getLsbD_extractLsb']
    simp only [hi, decide_true, Bool.true_and]
    congr 1
    omega
  have hfirst := hbyte 0 (by omega)
  have hsecond := hbyte 8 (by omega)
  rw [Function.iterate_zero_apply] at hfirst
  show [(lfsrByte r).1, (lfsrByte (lfsrByte r).2).1] = be16 r
  rw [hfirst, (lfsrByte_spec r).1, hsecond]
  rfl

/-- The errors of a whole sequence are the bytes that differ from the regenerated ones (R142). -/
theorem exerciseErrorCount_of_length (seed : Half) {sequence : List Byte} (h : sequence.length = 27) :
    exerciseErrorCount seed sequence = ((exerciseSequence seed).zip sequence).countP fun x => x.1 != x.2 := by
  rw [exerciseErrorCount, padTo_of_length 27 0 sequence h]

/-- Settles O15, by the slot of a frame acted on and the steps of the generator. -/
theorem goodFramesInLive : Obligations.GoodFramesInLive := by
  unfold Obligations.GoodFramesInLive
  refine ⟨fun s => ⟨fun body h => ?_, fun k count rest h => ?_, fun seed sequence hlen h => ?_, fun kind body h => ?_⟩,
    fun seed => ⟨exerciseBytes_length 27 _, exerciseBytes_start 25 _, ?_⟩, fun c n => satAdd_toNat c n, fun c n => satAdd_toNat c n⟩
  · exact congrArg Host.Outcome.next (takeFrame_of_actsOn _ _ h)
  · exact congrArg Host.Outcome.next (takeFrame_of_actsOn _ _ h)
  · refine (congrArg Host.Outcome.next (takeFrame_of_actsOn (exerciseFrameOf seed sequence) _ h)).trans ?_
    have hslot : State.plainSlot (State.ageAll
        { s.begin.forward (exerciseFrameOf seed sequence) .exercise with link := s.link.count .exercise }) =
        s.slotOf (mkFrame 0x04 (be16 seed ++ sequence)) .exercise := rfl
    rw [hslot, State.exercise, exerciseErrorCount_of_length seed hlen, State.slotOf_link]
    rfl
  · refine (congrArg Host.Outcome.next (takeFrame_of_actsOn (mkFrame kind body) _ h)).trans ?_
    have hslot : State.plainSlot (State.ageAll { s.begin.forward (mkFrame kind body) .unknown with link := s.link.count .unknown }) =
        s.slotOf (mkFrame kind body) .unknown := rfl
    dsimp only
    rw [hslot, State.slotOf_link]
    rfl
  · refine ⟨fun n => lfsrStep^[n] (if seed = 0 then 1 else seed), rfl, fun n _ j hj => ?_, fun k hk j hj => ?_⟩
    · dsimp only
      rw [Function.iterate_succ_apply', lfsrStep_getLsbD _ hj]
    · dsimp only
      rw [exerciseSequence, exerciseBytes_getD 27 _ hk, (lfsrByte_spec _).2 j hj, ← Function.iterate_add_apply, Nat.add_comm j]

/-- A number built bit by bit holds the bits given, and no others. -/
theorem testBit_add_bitNat {m n : Nat} (hm : m < 2 ^ n) (b : Bool) (k : Nat) :
    (m + bitNat b n).testBit k = if k = n then b else m.testBit k := by
  cases b with
  | false =>
    simp only [bitNat, Bool.false_eq_true, if_false, Nat.add_zero]
    split
    next h => rw [h]; exact Nat.testBit_lt_two_pow hm
    next => rfl
  | true =>
    simp only [bitNat, if_true]
    rw [Nat.add_comm]
    split
    next h => rw [h, Nat.testBit_two_pow_add_eq, Nat.testBit_lt_two_pow hm]; rfl
    next h =>
      obtain hlt | hgt := Nat.lt_or_gt_of_ne h
      · exact Nat.testBit_two_pow_add_gt hlt m
      · have hsum : 2 ^ n + m < 2 ^ k := by
          have : 2 ^ (n + 1) ≤ 2 ^ k := Nat.pow_le_pow_right (by decide) hgt
          rw [Nat.pow_succ] at this
          omega
        have hm' : m < 2 ^ k := Nat.lt_of_lt_of_le hm (Nat.pow_le_pow_right (by decide) hgt.le)
        rw [Nat.testBit_lt_two_pow hsum, Nat.testBit_lt_two_pow hm']

/-- One bit more. -/
theorem add_bitNat_lt {m n : Nat} (hm : m < 2 ^ n) (b : Bool) : m + bitNat b n < 2 ^ (n + 1) := by
  have : bitNat b n ≤ 2 ^ n := by cases b <;> simp [bitNat]
  rw [Nat.pow_succ]
  omega

/-- A physical field holds the bits of its scramble entries (R17). -/
theorem physicalBits_spec (s : State) (address : Long) (first n : Nat) :
    s.physicalBits address first n < 2 ^ n ∧
      ∀ k < n, (s.physicalBits address first n).testBit k = (s.tables.scramble.get (Fin.ofNat 31 (first + k))).bit address := by
  induction n with
  | zero => exact ⟨Nat.one_pos, nofun⟩
  | succ n ih =>
    obtain ⟨hlt, hbits⟩ := ih
    refine ⟨add_bitNat_lt hlt _, fun k hk => ?_⟩
    rw [State.physicalBits, testBit_add_bitNat hlt]
    split
    next h => rw [h]
    next h => exact hbits k (by omega)

/-- A bit of a physical field kept in a word of its width (R17). -/
theorem physicalBits_getLsbD (s : State) (address : Long) (first n k : Nat) (hk : k < n) (h : first + k < 31) :
    (BitVec.ofNat n (s.physicalBits address first n)).getLsbD k = (s.tables.scramble.get ⟨first + k, h⟩).bit address := by
  have hindex : (Fin.ofNat 31 (first + k)) = ⟨first + k, h⟩ := Fin.ext (Nat.mod_eq_of_lt h)
  rw [BitVec.getLsbD_ofNat, (physicalBits_spec s address first n).2 k hk, hindex]
  simp [hk]

/-- The topology index holds the bits its selectors name (R18). -/
theorem topologyIndex_spec (s : State) (row : Half) (col : Col) :
    s.topologyIndex row col < 256 ∧
      ∀ j : Fin 8, (s.topologyIndex row col).testBit j.val = (s.tables.selector.get j).bit row col := by
  have hfold (l : List RegionNo) (m i : Nat) (hm : m < 2 ^ i) (hl : l.map Fin.val = List.range' i l.length) :
      l.foldl (fun n j => n + bitNat ((s.tables.selector.get j).bit row col) j.val) m < 2 ^ (i + l.length) ∧
      (∀ k < i, (l.foldl (fun n j => n + bitNat ((s.tables.selector.get j).bit row col) j.val) m).testBit k = m.testBit k) ∧
      ∀ j ∈ l, (l.foldl (fun n j => n + bitNat ((s.tables.selector.get j).bit row col) j.val) m).testBit j.val =
        (s.tables.selector.get j).bit row col := by
    induction l generalizing m i with
    | nil => exact ⟨hm, fun _ _ => rfl, nofun⟩
    | cons a l ih =>
      simp only [List.map_cons, List.length_cons, List.range'_succ, List.cons.injEq] at hl
      obtain ⟨ha, hl⟩ := hl
      rw [List.foldl_cons]
      have hstep : m + bitNat ((s.tables.selector.get a).bit row col) a.val < 2 ^ (i + 1) := by
        rw [ha]; exact add_bitNat_lt hm _
      obtain ⟨hlt, hlow, hbits⟩ := ih _ (i + 1) hstep hl
      have hadd (k : Nat) := testBit_add_bitNat hm ((s.tables.selector.get a).bit row col) k
      rw [← ha] at hadd
      refine ⟨by rw [List.length_cons, ← Nat.add_assoc, Nat.add_right_comm]; exact hlt, fun k hk => ?_, fun j hj => ?_⟩
      · rw [hlow k (by omega), hadd, if_neg (by omega)]
      · obtain rfl | hj := List.mem_cons.1 hj
        · rw [hlow j.val (by omega), hadd, if_pos rfl]
        · exact hbits j hj
  obtain ⟨hlt, -, hbits⟩ := hfold allRegions 0 0 (by decide) (by decide)
  exact ⟨hlt, fun j => hbits j (mem_allRegions j)⟩

/-- Settles O17, bit by bit and by the cases of the strobe sum. -/
theorem addressDataAndStrobeTranslation : Obligations.AddressDataAndStrobeTranslation := by
  unfold Obligations.AddressDataAndStrobeTranslation
  refine ⟨fun s address data => ?_, fun t trim => ?_⟩
  · intro source
    obtain ⟨hlt, -⟩ := topologyIndex_spec s (s.rowOf address) (s.colOf address)
    refine ⟨fun k => ?_, fun k => ?_, fun k => ?_, fun row col j => (topologyIndex_spec s row col).2 j, ⟨hlt, ?_⟩,
      fun n invert => ⟨rfl, Bool.xor_false _, Bool.xor_true _⟩⟩
    · have h := physicalBits_getLsbD s address 0 16 k.val k.isLt (by omega)
      simp only [Nat.zero_add] at h
      exact h
    · exact physicalBits_getLsbD s address 16 12 k.val k.isLt (by omega)
    · obtain ⟨hlt, hbits⟩ := physicalBits_spec s address 28 3
      have hval : (s.regionOf address).val = s.physicalBits address 28 3 := Nat.mod_eq_of_lt hlt
      have hindex : (Fin.ofNat 31 (28 + k.val)) = ⟨28 + k.val, by omega⟩ := Fin.ext (Nat.mod_eq_of_lt (by omega))
      rw [hval, hbits k.val k.isLt, hindex]
    · have hindex : Fin.ofNat 256 (s.topologyIndex (s.rowOf address) (s.colOf address)) = ⟨_, hlt⟩ :=
        Fin.ext (Nat.mod_eq_of_lt hlt)
      rw [State.physicalData, hindex]
  · intro sum
    have hsum : strobeSum t trim = sum := by
      cases he : t.eye <;> simp [strobeSum, sum, he]
    rw [strobeCode, strobeLimited, hsum]
    refine ⟨fun h => ?_, fun h => ?_, fun h₀ h₁ => ?_⟩
    · rw [if_pos h]; simp [h]
    · rw [if_neg (by omega), if_pos h]; simp [h]
    · rw [if_neg (by omega), if_neg (by omega), BitVec.toNat_ofNat]
      refine ⟨by omega, ?_⟩
      simp [h₀, h₁]

/-- The word period of a lane error changes, at a site, the lane and the flags only (R127). -/
theorem comparePeriod_site (s : State) (i j : SiteNo) (p : WordPair) : (s.comparePeriod i p).site j =
    { s.site j with lane := ((s.comparePeriod i p).site j).lane, flags := ((s.comparePeriod i p).site j).flags } := by
  obtain h | ⟨-, ⟨hs, h⟩ | ⟨hs, h⟩ | ⟨hs, h⟩ | ⟨hs, h⟩⟩ := comparePeriod_cases s i p <;> rw [h]
  · exact (CalAct.train s i [p] hs).site j
  · exact (CalAct.shadow s i [p] hs).site j
  · exact (CalAct.offline s i [p] hs).site j
  · exact (CalAct.soak s i [p] hs).site j

/-- Settles O20, case by case of the hold, and for failed words by the word period they are. -/
theorem holdIdleAndBadWords : Obligations.HoldIdleAndBadWords := by
  unfold Obligations.HoldIdleAndBadWords
  refine ⟨fun i s => ?_, fun i s => ⟨rfl, fun word => ?_⟩⟩
  · intro x
    have hrequest : exec (.holdRequestWord i) s = .next (s.begin.holdRequest i) := rfl
    have hx : s.begin.site i = x := rfl
    refine ⟨rfl, fun h => ?_, fun hf hc hq => ?_, fun hf h => ?_⟩
    · rw [hrequest, State.holdRequest, if_neg (by rw [hx]; exact h)]
    · rw [hrequest, State.holdRequest, if_pos (by rw [hx]; exact hf), if_neg (by rw [hx]; tauto)]
      rfl
    · rw [hrequest, State.holdRequest, if_pos (by rw [hx]; exact hf), if_pos (by rw [hx]; tauto), grant_spec]
      rfl
  · have hsite : (s.begin.laneError i).site i =
        { s.site i with laneErrors := satAdd (s.site i).laneErrors 1 } := s.begin.site_onSite_self i _
    refine ⟨_, rfl, ?_, fun h₁ h₂ h₃ h₄ => ?_⟩
    · rw [comparePeriod_site, hsite]
      exact satAdd_toNat _ 1
    · have hstage : (s.begin.laneError i).stage = s.stage := by
        have hlane (k : SiteNo) : ((s.begin.laneError i).site k).lane = (s.site k).lane := by
          rw [State.laneError, State.site_onSite]; split <;> rfl
        unfold State.stage
        simp only [hlane]
        rfl
      have hnone : (s.begin.laneError i).comparePeriod i word = s.begin.laneError i := by
        obtain h | ⟨-, ⟨hs, -⟩ | ⟨hs, -⟩ | ⟨hs, -⟩ | ⟨hs, -⟩⟩ := comparePeriod_cases (s.begin.laneError i) i word
        · exact h
        · exact absurd (hstage ▸ hs) h₁
        · exact absurd (hstage ▸ hs) h₂
        · exact absurd (hstage ▸ hs) h₃
        · exact absurd (hstage ▸ hs) h₄
      rw [hnone, hsite]
      rfl

end Sys2Proof.Machine
end

section
/-! PROOFS. Taken requests: the request of an executed row in the state after its slot (R175, R176), the one response each adds (R176, R179), ENUMERATE, READ STATUS, SET REPORTING, CLEAR FLAGS, OPEN PASS and CLOSE PASS, and the requests refused with BAD_CODE (R146, R149, R170, R172, R180, R183, R90, R94). -/

namespace Sys2Proof.Machine

/-- A response queued from the state as it stands is the response its bytes give (R178, R179). -/
theorem State.answer_eq (s : State) (c : Ctl) (code : Byte) (st : Status) (data : List Byte) :
    s.answer c code st data = s.responded (s.responseBytes c code st.code data) := by
  simp only [State.answer, State.enqueueResponse, State.responded, State.responseFrame_eq, Bool.false_eq_true, if_false]

/-- The slot of a CONTROL frame leaves the response queue alone (R132). -/
theorem State.controlSlot_responses (s : State) (c : Ctl) (code : Byte) (params : List Byte) :
    (s.controlSlot c code params).ret.responses = s.ret.responses := by
  rw [State.controlSlot, (s.slotOf_keeps (controlFrame c code params) (.control (ctlTarget c) code)).2]

/-- Whether a CONTROL frame is taken does not change in its slot (R145). -/
theorem State.controlSlot_takes (s : State) (c : Ctl) (code : Byte) (params : List Byte) :
    (s.controlSlot c code params).takes c = s.takes c := by
  rw [State.takes, State.takes, State.addressed, State.addressed, s.controlSlot_chainPos]

/-- A CONTROL frame that the part acts on is its slot and then what becomes of its request (R175). -/
theorem takeControl_of_actsOn {s : State} {c : Ctl} {code : Byte} (params : List Byte) (run : State → State)
    (h : s.actsOn (.control (ctlTarget c) code) = true) :
    s.begin.takeControl c code params run = (s.controlSlot c code params).request c run :=
  takeFrame_of_actsOn (controlFrame c code params) (fun t => t.plainSlot.request c run) h

/-- A row that takes a CONTROL frame runs its request in the state after the frame's slot (R176). -/
theorem exec_of_executes {s : State} {c : Ctl} {code : Byte} {params : List Byte} {row : Instr} {run : State → State}
    (hrow : exec row s = .next (s.begin.takeControl c code params run)) (h : s.executes c code = true) :
    exec row s = .next (run (s.controlSlot c code params)) := by
  rw [hrow, State.takeControl_of_executes params run h]

/-- Whether the Control Request Unit takes a frame: it is a broadcast or it is addressed to the part's chain position (R145). -/
theorem State.takes_iff (s : State) (c : Ctl) :
    s.takes c = true ↔ ctlTarget c = 15 ∨ ∃ p : ChainPos, s.chainPos = some p ∧ ctlTarget c = p.val := by
  unfold State.takes State.addressed
  rw [Bool.or_eq_true, beq_iff_eq, beq_iff_eq]
  cases s.chainPos with
  | none => simp
  | some p => simp [eq_comm]

/-- Settles O51, by the request that any CONTROL row carries and what becomes of it where the frame is not taken. -/
theorem controlFramesNotTakenAreSlots : Obligations.ControlFramesNotTakenAreSlots := by
  unfold Obligations.ControlFramesNotTakenAreSlots
  intro row c code params s hrow
  refine ⟨fun hacts htakes => ?_, s.takes_iff c, ?_⟩
  · rw [exec_control hrow, takeControl_of_actsOn params _ hacts, request_of_not_taken]
    rw [State.controlSlot_takes, htakes]
  · rw [exec_control hrow, exec_control (i := .controlFrameNotTaken c code params) rfl]

/-- Settles O44, by the request of each row run in the state after its slot. -/
theorem enumerateAndRefusedRequests : Obligations.EnumerateAndRefusedRequests := by
  unfold Obligations.EnumerateAndRefusedRequests
  intro s c
  refine ⟨?enumerate, ?resync, ?unknown, ?action⟩
  case enumerate =>
    intro p rest h u
    have hexec : exec (.enumerate c p rest) s = .next (u.reqEnumerate c p) :=
      exec_of_executes (run := fun t => t.reqEnumerate c p) rfl h
    have hrevision : u.revision = s.revision := s.controlSlot_revision c 0x01 (p :: rest)
    rw [hexec]
    clear_value u
    refine ⟨fun htarget => ?_, ?_, ?_⟩
    · rw [State.reqEnumerate, if_pos htarget, State.answer_eq]
      simp only [codeEnumerate, Status.code]
    · intro htarget hp v
      have hv : v.source = p := BitVec.eq_of_toNat_eq (by simp [v, State.source, byteOf])
      have hpos : u.reqEnumerate c p = v.answer c codeEnumerate .accepted (v.identity ++ [v.source]) := by
        rw [State.reqEnumerate, if_neg (not_not.2 htarget), if_pos hp]
        simp only [Fin.ofNat, Nat.mod_eq_of_lt hp]
        rfl
      refine ⟨hv, ?_⟩
      have hid : v.identity = [0x04, 0x16, s.revision] := congrArg (fun r => [0x04, 0x16, r]) hrevision
      rw [hpos, State.answer_eq, hv, hid]
      simp only [codeEnumerate, Status.code, List.cons_append, List.nil_append]
    · intro htarget hp v
      have hpos : u.reqEnumerate c p = v.answer c codeEnumerate .chainFull (v.identity ++ [15]) := by
        rw [State.reqEnumerate, if_neg (not_not.2 htarget), if_neg (not_lt.2 hp)]
        rfl
      refine ⟨rfl, ?_⟩
      have hid : v.identity = [0x04, 0x16, s.revision] := congrArg (fun r => [0x04, 0x16, r]) hrevision
      rw [hpos, State.answer_eq, hid]
      simp only [codeEnumerate, Status.code, List.cons_append, List.nil_append]
  case resync =>
    intro params h hall u
    have hexec : exec (.resync c params) s = .next (u.reqResync c) :=
      exec_of_executes (run := fun t => t.reqResync c) rfl h
    rw [hexec, State.reqResync, if_pos hall, State.answer_eq]
    simp only [codeResync, Status.code]
  case unknown =>
    intro code params h hcode u
    have hexec : exec (.unknownRequest c code params) s = .next (u.requestOf c code params) :=
      exec_of_executes (run := fun t => t.requestOf c code params) rfl h
    have hreq : u.requestOf c code params = u.reqUnknown c code := by
      have hnot (n : Nat) (hn : n ∈ requestCodes) : code.toNat ≠ n := fun e => by
        rw [e, List.contains_eq_mem, decide_eq_false_iff_not] at hcode
        exact hcode hn
      unfold State.requestOf
      split
      case h_16 => rfl
      all_goals rename_i e; exact absurd e (hnot _ (by decide))
    rw [hexec, hreq, State.reqUnknown, State.answer_eq]
    simp only [Status.code]
  case action =>
    intro action rest h haction u
    have hexec : exec (.unknownRequest c 0x40 (action :: rest)) s = .next (u.requestOf c 0x40 (action :: rest)) :=
      exec_of_executes (run := fun t => t.requestOf c 0x40 (action :: rest)) rfl h
    have hreq : u.reqCalControl c action (rest.getD 0 0) = u.answerCal c .badCode := by
      have hnat : action.toNat = 0 ∨ 5 < action.toNat := haction.imp_left fun e => by rw [e]; rfl
      unfold State.reqCalControl
      split
      case h_6 => rfl
      all_goals omega
    rw [hexec]
    show Host.Outcome.next (u.reqCalControl c action (rest.getD 0 0)) = _
    rw [hreq, State.answerCal, State.answer_eq]
    simp only [codeCalControl, Status.code]

/-- One response to a request of tag and code joins the response queue (R176, R178, R179). -/
def Answered (c : Ctl) (code : Byte) (s t : State) : Prop :=
  ∃ (v : State) (st : Status) (clamped : Bool) (data : List Byte),
    t.ret.responses = s.ret.responses ++ [v.responseFrame c code st clamped data]

/-- A response built from a later state whose response queue is still the same. -/
theorem Answered.answer {s u : State} {c : Ctl} {code : Byte} (h : u.ret.responses = s.ret.responses) (st : Status)
    (data : List Byte) : Answered c code s (u.answer c code st data) :=
  ⟨u, st, false, data, by rw [State.answer_ret, h]⟩

/-- What follows a response and leaves the response queue alone. -/
theorem Answered.then {s t u : State} {c : Ctl} {code : Byte} (h : Answered c code s t)
    (e : u.ret.responses = t.ret.responses) : Answered c code s u := by
  obtain ⟨v, st, clamped, data, h⟩ := h
  exact ⟨v, st, clamped, data, e.trans h⟩

/-- What happens at a site, its reports among it, leaves the response queue alone. -/
theorem Local.responses {s t : State} (h : Local s t) : t.ret.responses = s.ret.responses := by rw [h.ret]

/-- The re-arming of sites leaves the response queue alone (R40). -/
theorem foldl_rearm_ret (l : List SiteNo) (s : State) : (l.foldl (fun t i => t.onSite i Site.rearm) s).ret = s.ret := by
  induction l generalizing s with
  | nil => rfl
  | cons i l ih => exact ih (s.onSite i Site.rearm)

/-- Whatever its status, a CAL CONTROL is answered once (R111). -/
theorem reqCalControl_answered (s : State) (c : Ctl) (action site : Byte) :
    Answered c codeCalControl s (s.reqCalControl c action site) := by
  have hanswer {t : State} (h : CalAct s t) (st : Status) : Answered c codeCalControl s (t.answerCal c st) :=
    .answer h.toLocal.responses st t.calData
  have hrefuse (st : Status) : Answered c codeCalControl s (s.answerCal c st) := .answer rfl st s.calData
  unfold State.reqCalControl
  split
  · exact hanswer (.start s) .accepted
  · exact hanswer (.stop s) .accepted
  · exact hanswer (.abort s) .accepted
  · unfold State.reqCalRetry
    dsimp only
    split_ifs with hsite hlane
    · exact hrefuse .badIndex
    · exact hanswer (.retry s _ hlane.1 hlane.2) .accepted
    · exact hrefuse .wrongState
  · exact hrefuse .accepted
  · exact hrefuse .badCode

/-- An executed request other than RESET PART adds one response, with its tag and code (R176, R178). -/
theorem requestOf_answered (s : State) (c : Ctl) (code : Byte) (p : List Byte) (hcode : code ≠ 0x03) :
    Answered c code s (s.requestOf c code p) := by
  have hof {k : Byte} (h : code.toNat = k.toNat) {t : State} (ht : Answered c k s t) : Answered c code s t :=
    BitVec.eq_of_toNat_eq h ▸ ht
  unfold State.requestOf
  split
  case h_1 h =>
    refine hof (k := codeEnumerate) h ?_
    unfold State.reqEnumerate
    dsimp only
    split_ifs
    all_goals exact .answer rfl _ _
  case h_2 h =>
    refine hof (k := codeResync) h ?_
    unfold State.reqResync
    split_ifs
    · exact .answer rfl _ _
    · exact (Answered.answer rfl _ _).then (State.linkLoss_keeps _).2
  case h_3 h => exact absurd (BitVec.eq_of_toNat_eq h) hcode
  case h_4 h => exact hof (k := codeReadStatus) h ((Answered.answer rfl _ _).then rfl)
  case h_5 h => exact hof (k := codeSetReporting) h (.answer rfl _ _)
  case h_6 h => exact hof (k := codeClearFlags) h (.answer rfl _ _)
  case h_7 h =>
    refine hof (k := codeWriteTable) h ?_
    unfold State.reqWriteTable
    dsimp only
    generalize hr : s.writeTable s.inPass (p.getD 0 0) (p.getD 1 0) (p.getD 2 0) (p.drop 3) = r
    have hret : r.state.ret = s.ret :=
      hr ▸ (writeTable_acts (loads := True) (reads := fun _ => True) s s.inPass _ _ _ _).2
    exact ⟨r.state, r.status, r.clamped, [byteOf r.applied], by rw [State.enqueueResponse_ret, hret]⟩
  case h_8 h => exact hof (k := codeReadTable) h (.answer rfl _ _)
  case h_9 h => exact hof (k := codeSetSites) h (.answer (applySites_event s _ _).toLocal.responses _ _)
  case h_10 h =>
    refine hof (k := codeReadHeadStatus) h ?_
    unfold State.reqReadHeadStatus
    dsimp only
    split_ifs
    · exact .answer rfl _ _
    · exact (Answered.answer rfl _ _).then (congrArg Merger.responses (foldl_rearm_ret _ _))
  case h_11 h =>
    refine hof (k := codeReadSiteCounts) h ?_
    unfold State.reqReadSiteCounts
    dsimp only
    split_ifs
    all_goals exact .answer rfl _ _
  case h_12 h =>
    refine hof (k := codeReadSiteAnalysis) h ?_
    unfold State.reqReadSiteAnalysis
    dsimp only
    split_ifs
    all_goals exact .answer rfl _ _
  case h_13 h =>
    refine hof (k := codeOpenPass) h ?_
    unfold State.reqOpenPass
    split
    all_goals exact .answer rfl _ _
  case h_14 h =>
    refine hof (k := codeClosePass) h ?_
    unfold State.reqClosePass
    split
    · exact (Answered.answer rfl _ _).then (settleDrain_only _).responses
    all_goals exact .answer rfl _ _
  case h_15 h => exact hof (k := codeCalControl) h (reqCalControl_answered s c _ _)
  case h_16 => exact .answer rfl _ _

/-- A RESPONSE frame carries its tag and its request code (R179). -/
theorem responseBytes_fields (s : State) (c : Ctl) (code status : Byte) (data : List Byte) :
    let f := s.responseBytes c code status data
    f.kind = 0x81 ∧ f.body.length = 29 ∧ frameGood f = true ∧ f.body.getD 1 0 = c.tag ∧ f.body.getD 2 0 = code :=
  ⟨rfl, mkFrame_body_length _ _, frameGood_mkFrame _ _, rfl, rfl⟩

/-- Settles O50, by the one response of each request and the request that finds no room. -/
theorem fullResponseQueueLosesRequests : Obligations.FullResponseQueueLosesRequests := by
  unfold Obligations.FullResponseQueueLosesRequests
  intro row c code params s hrow hacts htakes
  have htaken : (s.controlSlot c code params).takes c = true := by rw [State.controlSlot_takes, htakes]
  have hexec := exec_control hrow s
  rw [takeControl_of_actsOn params _ hacts] at hexec
  have hroom : (s.controlSlot c code params).responseRoom = decide (s.ret.responses.length < 4) := by
    rw [State.responseRoom, s.controlSlot_responses]
  refine ⟨fun hfull => ?_, fun hfree => ?_⟩
  · rw [hexec, request_of_full _ c _ htaken (by rw [hroom, decide_eq_false (not_lt.2 hfull)])]
  · rw [request_of_room _ c _ htaken (by rw [hroom, decide_eq_true hfree])] at hexec
    refine ⟨_, hexec, ?_⟩
    by_cases hcode : code = 0x03
    · subst hcode
      generalize s.controlSlot c 0x03 params = u
      obtain ⟨hkind, hlength, hgood, htag, hcode⟩ :=
        responseBytes_fields (u.reqResetPart c) c 0x03 0 [0x04, 0x16, u.revision, 2, (u.reqResetPart c).source]
      exact ⟨_, hkind, hlength, hgood, htag, hcode, fun h => absurd rfl h, fun _ => u.reqResetPart_responses c⟩
    · obtain ⟨v, st, clamped, data, h⟩ := requestOf_answered (s.controlSlot c code params) c code params hcode
      rw [s.controlSlot_responses, State.responseFrame_eq] at h
      obtain ⟨hkind, hlength, hgood, htag, hcode'⟩ :=
        responseBytes_fields v c code (if clamped then st.code ||| 0x80 else st.code) data
      exact ⟨_, hkind, hlength, hgood, htag, hcode', fun _ => h, fun e => absurd e hcode⟩

end Sys2Proof.Machine
end

section
/-! PROOFS. The reporting requests and the pass requests as executed: READ STATUS, SET REPORTING and CLEAR FLAGS with their data (R170, R172, R183), OPEN PASS and CLOSE PASS (R90, R94). -/

namespace Sys2Proof.Machine

/-- The slot of a CONTROL frame leaves the calibration items alone (R132). -/
theorem State.controlSlot_cal (s : State) (c : Ctl) (code : Byte) (params : List Byte) :
    (s.controlSlot c code params).cal = s.cal := by
  obtain ⟨t, u, ht, hu, hslot⟩ := s.controlSlot_changes c code params
  rw [hslot.cal, hu.cal, ht.cal]

/-- The slot of a CONTROL frame leaves the cycle numbering alone (R132). -/
theorem State.controlSlot_expander (s : State) (c : Ctl) (code : Byte) (params : List Byte) :
    (s.controlSlot c code params).expander = s.expander := by
  obtain ⟨t, u, ht, hu, hslot⟩ := s.controlSlot_changes c code params
  rw [hslot.expander, hu.expander, ht.expander]

/-- The slot of a CONTROL frame leaves the reset cause alone (R132). -/
theorem State.controlSlot_cause (s : State) (c : Ctl) (code : Byte) (params : List Byte) :
    (s.controlSlot c code params).cause = s.cause := by
  obtain ⟨t, u, ht, hu, hslot⟩ := s.controlSlot_changes c code params
  rw [hslot.cause, hu.cause, ht.cause]

/-- A part that executes a request is LIVE, and it is LIVE after the frame's slot (R141). -/
theorem State.controlSlot_live {s : State} {c : Ctl} {code : Byte} (params : List Byte) (h : s.executes c code = true) :
    (s.controlSlot c code params).link.state = .live := by
  simp only [State.executes, State.actsOn, Bool.and_eq_true, beq_iff_eq] at h
  obtain ⟨⟨⟨hlive, -⟩, -⟩, -⟩ := h
  rw [State.controlSlot, State.slotOf_link]
  exact hlive

/-- Settles O45, by the request of each row run in the state after its slot. -/
theorem statusAndReportingRequests : Obligations.StatusAndReportingRequests := by
  unfold Obligations.StatusAndReportingRequests
  intro s c
  refine ⟨?status, ?reporting, ?clear⟩
  case status =>
    intro params h u data
    have hexec : exec (.readStatus c params) s = .next (u.reqReadStatus c) :=
      exec_of_executes (run := fun t => t.reqReadStatus c) rfl h
    have hdata : u.statusData = data := by
      have hlive : u.link.state = .live := by simp only [u, State.controlSlot_live params h]
      have hrevision : u.revision = s.revision := s.controlSlot_revision c 0x04 params
      have hcal : u.cal = s.cal := s.controlSlot_cal c 0x04 params
      have hexpander : u.expander = s.expander := s.controlSlot_expander c 0x04 params
      have hcause : u.cause = s.cause := s.controlSlot_cause c 0x04 params
      have hmask : u.notice.mask = s.notice.mask := by simp only [u, State.controlSlot_mask]
      have hpos : u.source = s.source := by rw [State.source, State.source, s.controlSlot_chainPos]
      have hlink : byteOf (LinkState.live.code + bitNat s.cal.running 2) = if s.cal.running then 6 else 2 := by
        cases s.cal.running <;> rfl
      simp only [State.statusData, State.identity, State.positionByte, State.maskedFlags, hlive, hrevision, hcal, hexpander,
        hcause, hmask, hpos, hlink]
      rfl
    have hlength : data.length = 22 := rfl
    clear_value data u
    rw [hexec, State.reqReadStatus, State.answer_eq, hdata]
    exact ⟨hlength, rfl⟩
  case reporting =>
    intro enables mask rest h u v waiting
    have hexec : exec (.setReporting c enables mask rest) s = .next (u.reqSetReporting c enables mask) :=
      exec_of_executes (run := fun t => t.reqSetReporting c enables mask) rfl h
    have hbits : bitNat u.ret.hofOut 0 + bitNat u.ret.hofIn 1 =
        (if u.ret.hofOut then 1 else 0) + if u.ret.hofIn then 2 else 0 := rfl
    clear_value u
    rw [hexec, State.reqSetReporting, State.answer_eq, State.reportingData]
    rfl
  case clear =>
    intro flags rest h u v
    have hexec : exec (.clearFlags c flags rest) s = .next (u.reqClearFlags c flags) :=
      exec_of_executes (run := fun t => t.reqClearFlags c flags) rfl h
    have hmask : u.notice.mask = s.notice.mask := by simp only [u, State.controlSlot_mask]
    clear_value u
    rw [hexec, State.reqClearFlags, State.answer_eq, ← hmask]
    rfl

/-- What OPEN PASS makes of a condition (R37). -/
theorem Condition.restored_eq (k : Condition) (faulting : Bool) : k.restored faulting =
    match k with
    | .dropped _ => if faulting then .dropped .headFault else .enabled
    | k => k := by
  cases k <;> rfl

/-- Settles O31, by the four pass states. -/
theorem openPassAsOneStep : Obligations.OpenPassAsOneStep := by
  unfold Obligations.OpenPassAsOneStep
  intro s c number rest h u
  have hexec : exec (.openPass c number rest) s = .next (u.reqOpenPass c number) := exec_openPass_of_executes number rest h
  clear_value u
  refine ⟨fun hstate => ?_, fun hstate => ?_, fun hstate => ?_⟩
  · rw [State.reqOpenPass_of_admitted c number hstate, State.answer_eq] at hexec
    have hsite (f : Frame) (i : SiteNo) :
        ((u.openPass number).responded f).site i = (u.site i).openPass u.tables.region := State.site_openPass u number i
    refine ⟨_, hexec, fun i => ⟨?_, fun g => ?_⟩, rfl, rfl⟩
    · rw [hsite, Site.openPass, Condition.restored_eq]
      rfl
    · rw [hsite, Site.openPass, mapVector_get]
  · rw [hexec, State.reqOpenPass, hstate]
    simp only [State.answer_eq, State.passData, hstate]
    rfl
  · rw [hexec, State.reqOpenPass, hstate]
    simp only [State.answer_eq, State.passData, hstate]
    rfl

/-- A number as a 16-bit field, byte by byte (R193). -/
theorem be16_ofNat (n : Nat) : be16 (BitVec.ofNat 16 n) = [byteOf (n / 256), byteOf (n % 256)] := by
  have hbyte (k : Nat) : (BitVec.ofNat 16 n).extractLsb' k 8 = byteOf (n % 65536 / 2 ^ k) :=
    BitVec.eq_of_toNat_eq (by simp [byteOf, BitVec.extractLsb'_toNat, Nat.shiftRight_eq_div_pow])
  have hhigh : byteOf (n % 65536 / 2 ^ 8) = byteOf (n / 256) := BitVec.eq_of_toNat_eq (by simp [byteOf]; omega)
  have hlow : byteOf (n % 65536 / 2 ^ 0) = byteOf (n % 256) := BitVec.eq_of_toNat_eq (by simp [byteOf])
  rw [be16, hbyte, hbyte, hhigh, hlow]

/-- Settles O32, by the four pass states and, in OPEN, whether a counted entry is outstanding. -/
theorem closePassStartsTheDrain : Obligations.ClosePassStartsTheDrain := by
  unfold Obligations.ClosePassStartsTheDrain
  intro s c params h u closing n answered
  have hexec : exec (.closePass c params) s = .next (u.reqClosePass c) :=
    exec_of_executes (run := fun t => t.reqClosePass c) rfl h
  clear_value u
  refine ⟨fun hstate _ hsummary => ?_, fun hstate => ?_, fun hstate => ?_, fun hstate => ?_⟩
  · have hreq : u.reqClosePass c = answered.settleDrain := by
      rw [State.reqClosePass, hstate]
      simp only [State.answer_eq, be16_ofNat]
      rfl
    have hdraining : answered.draining = true := by
      show (PassState.closing == .closing && u.pass.summary.isNone) = true
      rw [hsummary]; rfl
    have hcount : answered.countedTotal = n := rfl
    rw [hexec, hreq]
    obtain ⟨hsettle, hnot⟩ | ⟨hsettle, -, hzero⟩ := settleDrain_cases answered
    · have hne : n ≠ 0 := hnot.resolve_left (by simp [hdraining])
      exact ⟨fun _ => by rw [hsettle], fun h => absurd h hne⟩
    · exact ⟨fun h => absurd hzero h, fun _ => by rw [hsettle, State.beginSummaries]⟩
  all_goals
    rw [hexec, State.reqClosePass, hstate]
    simp only [State.answer_eq, State.passData, hstate]
    rfl

end Sys2Proof.Machine
end

section
/-! PROOFS. Site verdicts (R77), arrivals on the return link (R155 to R158, R173) and the notices (R165 to R168). -/

namespace Sys2Proof.Machine

/-- Some member of a vector, as a check over its list. -/
theorem any_toList_iff {α : Type} {n : Nat} (v : Vector α n) (p : α → Bool) :
    v.toList.any p = true ↔ ∃ i, p (v.get i) = true := by
  have h := all_toList_iff v fun a => !p a
  rw [← List.not_any_eq_all_not, Bool.not_eq_true'] at h
  rw [← not_iff_not, Bool.not_eq_true, h]
  simp

/-- A site verdict is UNREPAIRABLE exactly when some region is (R77). -/
theorem Site.verdict_unrepairable_iff (x : Site) :
    x.verdict = .unrepairable ↔ ∃ g : RegionNo, (x.records.get g).state = .unrepairable := by
  have h := any_toList_iff x.records (·.state == .unrepairable)
  simp only [beq_iff_eq] at h
  rw [← h, Site.verdict]
  split_ifs <;> simp_all

/-- A site verdict is CLEAN exactly when every region is (R77). -/
theorem Site.verdict_clean_iff (x : Site) :
    x.verdict = .clean ↔ ∀ g : RegionNo, (x.records.get g).state = .clean := by
  refine ⟨fun h g => ?_, Site.verdict_clean⟩
  have hmem {k : RegionState} (hk : (x.records.get g).state = k) : x.records.toList.any (·.state == k) = true :=
    (any_toList_iff _ _).2 ⟨g, beq_iff_eq.2 hk⟩
  rw [Site.verdict] at h
  cases hg : (x.records.get g).state with
  | clean => rfl
  | repairable =>
    split_ifs at h with hbad hrep
    exact absurd (hmem hg) hrep
  | unrepairable => rw [if_pos (hmem hg)] at h; exact absurd h nofun

/-- No fail changes a record that is UNREPAIRABLE (R70). -/
theorem Record.take_of_unrepairable {r : Record} (p : Half × Col) (h : r.state = .unrepairable) : r.take p = r := by
  simp [Record.take, Record.ignores, h]

/-- Settles O30, by the region that makes the verdict UNREPAIRABLE, whose record no fail changes. -/
theorem verdictIsTheWorstRegionState : Obligations.VerdictIsTheWorstRegionState := by
  unfold Obligations.VerdictIsTheWorstRegionState
  refine ⟨fun x => ⟨x.verdict_unrepairable_iff, x.verdict_clean_iff⟩, fun r p => r.take_of_unrepairable p, fun x g p h => ?_⟩
  obtain ⟨k, hk⟩ := x.verdict_unrepairable_iff.1 h
  refine (x.takeFail g p).verdict_unrepairable_iff.2 ⟨k, ?_⟩
  rw [Site.takeFail_get, Record.take_of_unrepairable p hk, ite_self, hk]

/-- A bad frame from the part below is counted and dropped (R155). -/
theorem State.takeReturn_of_bad (s : State) {f : Frame} (h : frameGood f = false) :
    s.takeReturn f = { s with ret := { s.ret with checkErrors := satAdd s.ret.checkErrors 1 } } := by
  simp [State.takeReturn, h]

/-- An IDLE frame from the part below is discarded (R155). -/
theorem State.takeReturn_of_idle (s : State) {f : Frame} (h : frameGood f = true) (hk : f.kind = 0x00) :
    s.takeReturn f = s := by
  simp [State.takeReturn, h, hk]

/-- Any other good frame is offered to the FIFO (R155). -/
theorem State.takeReturn_of_offered {s : State} {f : Frame} (h : frameGood f = true) (hk : f.kind ≠ 0x00)
    (hline : s.link.crst = false) : s.takeReturn f = s.offerPassThrough f := by
  rw [State.takeReturn, h, if_neg (by decide), if_neg hk, hline, if_neg Bool.false_ne_true]

/-- HOF_OUT after an arrival: held, or asserted at 5 frames or more (R157). -/
theorem hofAfterArrival_eq (held : Bool) (n : Nat) : hofAfterArrival held n = (held || decide (5 ≤ n)) := by
  unfold hofAfterArrival
  split_ifs with h <;> simp [h]

/-- Settles O41, by the check, the kind and the reset line, and then the room in the FIFO. -/
theorem returnArrivals : Obligations.ReturnArrivals := by
  unfold Obligations.ReturnArrivals
  intro f s
  have hexec : exec (.returnFrameReceived f) s = .next (s.begin.takeReturn f) := rfl
  rw [hexec]
  refine ⟨rfl, fun hbad => ?_, fun hgood hidle => ?_, fun hgood hline => ?_, fun hline => ⟨fun hgood hkind hroom => ?_,
    fun hgood hkind hfull => ?_⟩⟩
  · rw [State.takeReturn_of_bad _ hbad]; rfl
  · rw [State.takeReturn_of_idle _ hgood hidle]
  · rw [State.takeReturn_of_held (s := s.begin) f hline, if_pos hgood]
  · rw [State.takeReturn_of_offered (s := s.begin) hgood hkind hline, State.offerPassThrough, if_pos (by simpa using hroom)]
    simp [hofAfterArrival_eq]
  · rw [State.takeReturn_of_offered (s := s.begin) hgood hkind hline, State.offerPassThrough, if_neg (by simpa using hfull)]

/-- The notice a flag makes due finds a place: the queue has one, no summary waits and no notice is ahead of it (R168). -/
theorem noticeDue_of_free {s : State} (f : NoticeFlag) (hroom : s.reportRoom = true) (hsum : s.summariesWaiting = false)
    (hw : s.notice.waiting = []) : s.noticeDue f = s.enqueueReport (s.noticeFrame f) := by
  simp [State.noticeDue, hroom, hsum, hw]

/-- The notice a flag makes due finds no place: it joins the pending list once (R168). -/
theorem noticeDue_of_waits {s : State} (f : NoticeFlag)
    (h : s.reportRoom = false ∨ s.summariesWaiting = true ∨ s.notice.waiting ≠ []) :
    s.noticeDue f =
      if f ∈ s.notice.waiting then s else { s with notice := { s.notice with waiting := s.notice.waiting ++ [f] } } := by
  have hnot : (s.reportRoom && !s.summariesWaiting && s.notice.waiting.isEmpty) = false := by
    obtain h | h | h := h <;> simp [h]
  rw [State.noticeDue, hnot, if_neg Bool.false_ne_true]

/-- Summaries wait exactly while the summary position is present (R98). -/
theorem State.summariesWaiting_eq_false (s : State) : s.summariesWaiting = false ↔ s.pass.summary = none := by
  simp [State.summariesWaiting]

/-- Settles O43, by the flag and its mask bit, and by whether the notice finds a place. -/
theorem noticeFlagsAndPendingNotices : Obligations.NoticeFlagsAndPendingNotices := by
  unfold Obligations.NoticeFlagsAndPendingNotices
  refine ⟨?raise, fun s => ?enters⟩
  case raise =>
    intro s f flags u free
    have hroom : u.reportRoom = true ↔ s.ret.reports.length < 32 := u.reportRoom_iff
    refine ⟨raiseFlag_of_set s f, fun hclear => ⟨raiseFlag_of_silent s f hclear, fun hmask hfree hempty => ?_,
      fun hmask hwaits => ?_⟩⟩
    · rw [raiseFlag_of_masked s f hclear hmask]
      exact noticeDue_of_free (s := u) f (hroom.2 hfree.1) (u.summariesWaiting_eq_false.2 hfree.2) hempty
    · rw [raiseFlag_of_masked s f hclear hmask]
      refine noticeDue_of_waits (s := u) f ?_
      by_contra hn
      push Not at hn
      obtain ⟨hr, hs, hw⟩ := hn
      refine hwaits.elim (fun hnot => hnot ⟨hroom.1 (by simpa using hr), u.summariesWaiting_eq_false.1 (by simpa using hs)⟩)
        fun hne => hne hw
  case enters =>
    have hexec : exec .pendingNoticeEnters s = .next s.begin.admitNotice := rfl
    rw [hexec]
    refine ⟨fun h => ?_, fun f rest hw hroom hsum => ?_⟩
    · rw [admitNotice_of_settled (s := s.begin) (h.imp_right fun h => h.symm)]
    · rw [admitNotice_of_room (s := s.begin) hw hroom (s.summariesWaiting_eq_false.2 hsum)]
      rfl

end Sys2Proof.Machine
end

section
/-! PROOFS. The requests that read or re-arm: WRITE TABLE entry by entry (R9), READ HEAD STATUS (R40) and the CAL CONTROL actions (R111, R112, R124, R125). -/

namespace Sys2Proof.Machine

/-- A response is told by the chain position and its own bytes (R154, R179). -/
theorem State.responseBytes_congr {s t : State} (h : t.chainPos = s.chainPos) (c : Ctl) (code status : Byte) (data : List Byte) :
    t.responseBytes c code status data = s.responseBytes c code status data := by
  rw [State.responseBytes, State.responseBytes, State.source, State.source, h]

/-- The bytes of entry j of a WRITE TABLE (section 10.7). -/
def TableId.entryBytes (id : TableId) (bytes : List Byte) (j : Nat) : List Byte :=
  (bytes.drop (j * id.entrySize)).take id.entrySize

/-- A run of table entries, written one after another from an index on: the first `applied` of n are written, and where one is left it is refused (R9). -/
structure WritesRun (id : TableId) (n index : Nat) (bytes : List Byte) (s : State) (st : Nat → State) (clamped : Nat → Bool)
    (applied : Nat) (status : Status) : Prop where
  start : st 0 = s
  bound : applied ≤ n
  written : ∀ j < applied, (st j).writeEntry id (index + j) (id.entryBytes bytes j) = .ok (st (j + 1), clamped j)
  all : applied = n → status = .accepted
  refused : applied < n → (st applied).writeEntry id (index + applied) (id.entryBytes bytes applied) = .error status

/-- An entry written before a run is a run of one entry more (R9). -/
theorem WritesRun.cons {id : TableId} {n index : Nat} {bytes : List Byte} {s t : State} {c : Bool} {st : Nat → State}
    {clamped : Nat → Bool} {applied : Nat} {status : Status}
    (hfirst : s.writeEntry id index (bytes.take id.entrySize) = .ok (t, c))
    (h : WritesRun id n (index + 1) (bytes.drop id.entrySize) t st clamped applied status) :
    WritesRun id (n + 1) index bytes s (fun j => j.casesOn s st) (fun j => j.casesOn c clamped) (applied + 1) status := by
  have hbytes (j : Nat) : id.entryBytes (bytes.drop id.entrySize) j = id.entryBytes bytes (j + 1) := by
    rw [TableId.entryBytes, TableId.entryBytes, List.drop_drop, Nat.succ_mul, Nat.add_comm]
  have hindex (j : Nat) : index + (j + 1) = index + 1 + j := by omega
  refine ⟨rfl, Nat.succ_le_succ h.bound, fun j hj => ?_, fun e => h.all (Nat.succ.inj e), fun hlt => ?_⟩
  · cases j with
    | zero => simpa [TableId.entryBytes, h.start] using hfirst
    | succ j => rw [← hbytes, hindex]; exact h.written j (Nat.lt_of_succ_lt_succ hj)
  · rw [← hbytes, hindex]; exact h.refused (Nat.lt_of_succ_lt_succ hlt)

/-- The entries of a WRITE TABLE are a run of entries (R9). -/
theorem writeEntries_run (id : TableId) (n : Nat) (s : State) (index : Nat) (bytes : List Byte) (done : Nat) (before : Bool) :
    ∃ (st : Nat → State) (clamped : Nat → Bool) (applied : Nat) (status : Status),
      WritesRun id n index bytes s st clamped applied status ∧
      s.writeEntries id n index bytes done before =
        ⟨st applied, status, done + applied, before || (List.range applied).any clamped⟩ := by
  induction n generalizing s index bytes done before with
  | zero =>
    exact ⟨fun _ => s, fun _ => false, 0, .accepted, ⟨rfl, Nat.le_refl 0, nofun, fun _ => rfl, nofun⟩,
      by simp [State.writeEntries]⟩
  | succ n ih =>
    cases hw : s.writeEntry id index (bytes.take id.entrySize) with
    | error e =>
      exact ⟨fun _ => s, fun _ => false, 0, e,
        ⟨rfl, Nat.zero_le _, nofun, nofun, fun _ => by simpa [TableId.entryBytes] using hw⟩, by simp [State.writeEntries, hw]⟩
    | ok r =>
      obtain ⟨t, c⟩ := r
      obtain ⟨st, clamped, applied, status, hrun, heq⟩ := ih t (index + 1) (bytes.drop id.entrySize) (done + 1) (before || c)
      refine ⟨_, _, _, status, .cons hw hrun, ?_⟩
      simp only [State.writeEntries, hw]
      rw [heq]
      simp only [List.range_succ_eq_map, List.any_cons, List.any_map, Bool.or_assoc, Nat.add_assoc, Nat.add_comm 1 applied]
      rfl

/-- A run of entries leaves the chain position (R9). -/
theorem WritesRun.chainPos {id : TableId} {n index : Nat} {bytes : List Byte} {s : State} {st : Nat → State}
    {clamped : Nat → Bool} {applied : Nat} {status : Status} (h : WritesRun id n index bytes s st clamped applied status)
    (j : Nat) (hj : j ≤ applied) : (st j).chainPos = s.chainPos := by
  induction j with
  | zero => rw [h.start]
  | succ j ih => rw [writeEntry_tables _ _ _ _ _ _ (h.written j hj), ← ih (Nat.le_of_succ_le hj)]

/-- The status byte of a response with its CLAMPED indication (R9). -/
theorem Status.clamped_eq (st : Status) (b : Bool) :
    (if b then st.code ||| 0x80 else st.code) = st.code + if b then 0x80 else 0 := by
  cases st <;> cases b <;> rfl

/-- Settles O47, by the three whole-request checks and the run of entries. -/
theorem writeTableAppliesEntriesInOrder : Obligations.WriteTableAppliesEntriesInOrder := by
  unfold Obligations.WriteTableAppliesEntriesInOrder
  intro s c table start count entries h u inPass refused
  have hexec : exec (.writeTable c table start count entries) s = .next (u.reqWriteTable c table start count entries) :=
    exec_of_executes (run := fun t => t.reqWriteTable c table start count entries) rfl h
  have hin : u.inPass = true ↔ inPass := by simp [State.inPass, inPass]
  clear_value u
  have hrefused {st : Status} (hst : u.writeTable u.inPass table start count entries = ⟨u, st, 0, false⟩) : refused st.code := by
    show exec _ s = _
    rw [hexec, State.reqWriteTable, hst]
    simp only [State.responseFrame_eq, byteOf]
    rfl
  have hunlocked {t : TableId} (hfree : ¬(t.lockedInPass = true ∧ inPass)) : (t.lockedInPass && u.inPass) = false :=
    Bool.eq_false_iff.2 fun e => hfree (by rwa [Bool.and_eq_true, hin] at e)
  refine ⟨fun hid => hrefused (st := .badCode) ?_, fun t hid hfactory => ⟨fun hlocked => hrefused (st := .wrongState) ?_,
    fun hfree hlong => hrefused (st := .badCode) ?_, fun hfree hshort => ?_⟩⟩
  · obtain hid | hid := hid <;> simp [State.writeTable, hid]
  · simp [State.writeTable, hid, hfactory, hlocked.1, hin.2 hlocked.2]
  · simp [State.writeTable, hid, hfactory, hunlocked hfree, TableId.perFrame, hlong]
  · obtain ⟨st, clamped, applied, status, hrun, heq⟩ := writeEntries_run t count.toNat u start.toNat entries 0 false
    refine ⟨st, clamped, applied, status, hrun.start, hrun.bound, hrun.written, hrun.all, hrun.refused, ?_⟩
    have hwrite : u.writeTable u.inPass table start count entries =
        ⟨st applied, status, applied, (List.range applied).any clamped⟩ := by
      simp [State.writeTable, hid, hfactory, hunlocked hfree, TableId.perFrame, Nat.not_lt.2 hshort, heq]
    rw [hexec, State.reqWriteTable, hwrite]
    simp only [State.responseFrame_eq, Status.clamped_eq, State.responseBytes_congr (hrun.chainPos applied (Nat.le_refl _))]
    rfl

/-- The sites that a READ HEAD STATUS reports, from its first site on (R40). -/
theorem mem_reportedSites {first count : Nat} (h : first + min count 7 ≤ 16) (i : SiteNo) :
    i ∈ reportedSites first count ↔ first ≤ i.val ∧ i.val < first + min count 7 := by
  simp only [reportedSites, List.mem_map, List.mem_range]
  constructor
  · rintro ⟨j, hj, rfl⟩
    have hval : (Fin.ofNat 16 (first + j)).val = first + j := Nat.mod_eq_of_lt (by omega)
    omega
  · rintro ⟨hlow, hhigh⟩
    exact ⟨i.val - first, by omega, Fin.ext (by simp only [Fin.ofNat]; omega)⟩

/-- The sites re-armed in turn: each of them re-armed, the others as they were (R40). -/
theorem site_foldl_rearm (l : List SiteNo) (s : State) (j : SiteNo) :
    (l.foldl (fun t i => t.onSite i Site.rearm) s).site j = if j ∈ l then (s.site j).rearm else s.site j := by
  induction l generalizing s with
  | nil => simp
  | cons i l ih =>
    rw [List.foldl_cons, ih, State.site_onSite]
    by_cases hi : j = i <;> by_cases hl : j ∈ l <;> simp [hi, hl, Site.rearm]

/-- The re-arming of sites changes nothing but the sites (R40). -/
theorem foldl_rearm_only (l : List SiteNo) (s : State) :
    l.foldl (fun t i => t.onSite i Site.rearm) s = { s with sites := (l.foldl (fun t i => t.onSite i Site.rearm) s).sites } := by
  induction l generalizing s with
  | nil => rfl
  | cons i l ih => exact ih (s.onSite i Site.rearm)

/-- A byte of a list of three-byte items is a byte of one item. -/
theorem getD_flatten_triples {α : Type} {f : α → List Byte} (hf : ∀ a, (f a).length = 3) (l : List α) {k r : Nat}
    (hk : k < l.length) (hr : r < 3) : (l.map f).flatten.getD (3 * k + r) 0 = (f l[k]).getD r 0 := by
  induction l generalizing k with
  | nil => exact absurd hk (Nat.not_lt_zero k)
  | cons a l ih =>
    rw [List.map_cons, List.flatten_cons]
    cases k with
    | zero => rw [List.getD_append _ _ _ _ (by rw [hf]; omega), Nat.mul_zero, Nat.zero_add]; rfl
    | succ k =>
      rw [List.getD_append_right _ _ _ _ (by rw [hf]; omega), hf, show 3 * (k + 1) + r - 3 = 3 * k + r by omega]
      exact ih (Nat.lt_of_succ_lt_succ hk)

/-- Settles O23, by the ranges and, within them, the sites reported and re-armed. -/
theorem readHeadStatusReportsAndRearms : Obligations.ReadHeadStatusReportsAndRearms := by
  unfold Obligations.ReadHeadStatusReportsAndRearms
  intro s c first count rest h u
  have hexec : exec (.readHeadStatus c first count rest) s = .next (u.reqReadHeadStatus c first count) :=
    exec_of_executes (run := fun t => t.reqReadHeadStatus c first count) rfl h
  clear_value u
  refine ⟨fun hrange => ?_, ?_⟩
  · rw [hexec, State.reqReadHeadStatus, if_pos hrange, State.answer_eq]
    rfl
  · intro hfirst hlast n
    let sites := reportedSites first.toNat count.toNat
    let data := first :: byteOf sites.length :: (sites.map fun i => (u.site i).headData).flatten
    have hreq : u.reqReadHeadStatus c first count =
        sites.foldl (fun t i => t.onSite i Site.rearm) (u.responded (u.responseBytes c 0x21 0 data)) := by
      rw [State.reqReadHeadStatus, if_neg (by omega)]
      simp only [State.answer_eq]
      rfl
    have hn : first.toNat + min count.toNat 7 ≤ 16 := by omega
    have hlength : sites.length = n := by simp [sites, reportedSites, n]
    have hdata (i : SiteNo) : (u.site i).headData.length = 3 := rfl
    have hflat : ((sites.map fun i => (u.site i).headData).flatten).length = 3 * n := by
      simp [List.length_flatten, hdata, Function.comp_def, hlength, Nat.mul_comm]
    rw [hexec, hreq]
    refine ⟨_, rfl, fun i => ?_, data, foldl_rearm_only _ _, ?_, rfl, ?_, fun i hlow hhigh => ?_⟩
    · rw [site_foldl_rearm, State.site_congr (State.responded_sites u _)]
      simp only [sites, mem_reportedSites hn]
      rfl
    · simp only [data, List.length_cons, hflat]; omega
    · show (byteOf sites.length).toNat = n
      rw [hlength, byteOf, BitVec.toNat_ofNat]; omega
    · have hk : i.val - first.toNat < sites.length := by omega
      have hsite : sites[i.val - first.toNat] = i := by
        simp only [sites, reportedSites, List.getElem_map, List.getElem_range]
        exact Fin.ext (by simp only [Fin.ofNat]; omega)
      have hget (r : Nat) (hr : r < 3) : data.getD (2 + 3 * (i.val - first.toNat) + r) 0 = (u.site i).headData.getD r 0 := by
        have hflat := getD_flatten_triples hdata sites hk hr
        rw [hsite] at hflat
        rw [← hflat, show 2 + 3 * (i.val - first.toNat) + r = 3 * (i.val - first.toNat) + r + 1 + 1 by omega]
        rfl
      exact ⟨hget 0 (by decide), hget 1 (by decide), (hget 2 (by decide)).trans (by
        simp only [Site.headData, byteOf, bitNat]
        cases (u.site i).changed <;> rfl)⟩

end Sys2Proof.Machine
end

section
/-! PROOFS. The CAL CONTROL actions with the calibration status (R111, R112, R124, R125), and the requests that only read (R12, R40, R59, R60, R83 to R85). -/

namespace Sys2Proof.Machine

/-- A CAL CONTROL response carries the calibration status of the state that answers (R111). -/
theorem State.answerCal_eq (s : State) (c : Ctl) (st : Status) :
    s.answerCal c st = s.responded (s.responseBytes c 0x40 st.code s.calData) := by
  rw [State.answerCal, State.answer_eq]
  rfl

/-- The slot of a CONTROL frame leaves the condition and the lane of every site (R132). -/
theorem State.controlSlot_lane (s : State) (c : Ctl) (code : Byte) (params : List Byte) (i : SiteNo) :
    ((s.controlSlot c code params).site i).lane = (s.site i).lane ∧
      ((s.controlSlot c code params).site i).condition = (s.site i).condition := by
  rw [State.controlSlot, State.slotOf, State.site_slot]
  exact ⟨rfl, rfl⟩

/-- A lane state code (section 10.6). -/
theorem LaneState.code_eq (l : LaneState) : l.code =
    match l with
    | .online => 0
    | .shadowed => 1
    | .offlineCal => 2
    | .soak => 3
    | .degraded => 4 := by
  cases l <;> rfl

/-- The lane bytes of the calibration status (section 10.6). -/
theorem State.laneData_eq (s : State) :
    let lane (i : SiteNo) : Nat := (s.site i).lane.code
    s.laneData = [byteOf (lane 0 + 16 * lane 1), byteOf (lane 2 + 16 * lane 3), byteOf (lane 4 + 16 * lane 5),
      byteOf (lane 6 + 16 * lane 7), byteOf (lane 8 + 16 * lane 9), byteOf (lane 10 + 16 * lane 11),
      byteOf (lane 12 + 16 * lane 13), byteOf (lane 14 + 16 * lane 15)] := by
  simp only [State.laneData, List.range_succ_eq_map, Nat.mul_comm 16]
  rfl

/-- The spare's phase as the calibration status gives it (R106, R118). -/
theorem State.sparePhase_byte (s : State) : byteOf s.sparePhase.val =
    match s.cal.spare, s.cal.found with
    | .idle, _ => byteOf (s.tables.factory.get 16).val
    | _, some p => byteOf p.val
    | _, none => byteOf (s.cal.scan.words / 16 % 64) := by
  unfold State.sparePhase
  cases s.cal.spare <;> cases s.cal.found <;> rfl

/-- Settles O40, by the state of the rotation, the spare and the lane that each action meets. -/
theorem calControlActions : Obligations.CalControlActions := by
  unfold Obligations.CalControlActions
  intro s c site rest h answered u
  have hcal (action : Byte) : (u action).cal = s.cal := s.controlSlot_cal c 0x40 (action :: site :: rest)
  have htables (action : Byte) : (u action).tables = s.tables := s.controlSlot_tables c 0x40 (action :: site :: rest)
  have hlane (action : Byte) (i : SiteNo) : ((u action).site i).lane = (s.site i).lane ∧
      ((u action).site i).condition = (s.site i).condition := s.controlSlot_lane c 0x40 (action :: site :: rest) i
  have hstart : exec (.calControlStart c site rest) s = .next ((u 1).calStart.answerCal c .accepted) :=
    exec_of_executes (run := fun t => t.reqCalStart c) rfl h
  have hstop : exec (.calControlStop c site rest) s = .next ((u 2).calStop.answerCal c .accepted) :=
    exec_of_executes (run := fun t => t.reqCalStop c) rfl h
  have habort : exec (.calControlAbort c site rest) s = .next ((u 3).calAbort.answerCal c .accepted) :=
    exec_of_executes (run := fun t => t.reqCalAbort c) rfl h
  have hretry : exec (.calControlRetry c site rest) s = .next ((u 4).reqCalRetry c site) :=
    exec_of_executes (run := fun t => t.reqCalRetry c site) rfl h
  have hstatus : exec (.calControlStatus c site rest) s = .next ((u 5).answerCal c .accepted) :=
    exec_of_executes (run := fun t => t.reqCalStatus c) rfl h
  clear_value u
  have hanswered (st : Status) (v : State) : v.answerCal c st = answered st.code v := v.answerCal_eq c st
  simp only [hanswered] at hstart hstop habort hstatus
  refine ⟨fun hrun => ?_, fun hrun => ?_, fun hrun => ?_, fun hrun => ?_, fun hidle => ?_, fun i hspare ht => ?_,
    fun hsite => ?_, fun i hi => ⟨fun hdegraded henabled => ?_, fun hnot => ?_⟩, hstatus, fun v => ?_⟩
  · rw [hstart, State.calStart, hcal, if_neg (by simp [hrun]), ← htables 1]
    rfl
  · rw [hstart, State.calStart, hcal, if_pos hrun]
    rfl
  · rw [hstop, State.calStop, hcal, if_pos hrun]
    rfl
  · rw [hstop, State.calStop, hcal, if_neg (by simp [hrun])]
    rfl
  · rw [habort, State.calAbort, hcal, if_pos hidle]
    rfl
  · rw [habort, State.calAbort, hcal, if_neg hspare, endRun_of_target (u 3) i (by rw [hcal, ht]), hcal]
    rfl
  · rw [hretry, State.reqCalRetry, if_pos hsite, hanswered]
    rfl
  · have hfin : Fin.ofNat 16 site.toNat = i := Fin.ext (by simp only [Fin.ofNat]; omega)
    have hready : ((u 4).site i).lane = .degraded ∧ ((u 4).site i).condition = .enabled := by
      rw [(hlane 4 i).1, (hlane 4 i).2]; exact ⟨hdegraded, henabled⟩
    have hcalRetry : (u 4).calRetry i = { (u 4).setSite i { (u 4).site i with lane := .offlineCal } with
        cal := { (u 4).cal.offline with attempts := 0 } } := rfl
    rw [hretry, State.reqCalRetry, if_neg (by omega), hfin]
    dsimp only
    rw [if_pos hready, hanswered, hcalRetry, hcal]
    rfl
  · have hfin : Fin.ofNat 16 site.toNat = i := Fin.ext (by simp only [Fin.ofNat]; omega)
    rw [hretry, State.reqCalRetry, if_neg (by omega), hfin]
    have hneither : ¬((s.site i).lane = .degraded ∧ (s.site i).condition = .enabled) := fun e =>
      hnot.elim (fun hn => hn e.1) fun hn => hn e.2
    simp only [hlane, hneither, if_false, hanswered]
    rfl
  · intro lane swept
    have hlanes (i : SiteNo) : (v.site i).lane.code = lane i := (v.site i).lane.code_eq
    have hspare : v.cal.spare.code = match v.cal.spare with
        | .idle => 0
        | .training => 1
        | .standingIn => 2
        | .committed => 3 := by cases v.cal.spare <;> rfl
    rw [State.calData, v.laneData_eq, v.sparePhase_byte, hspare, State.workingPhase]
    simp only [hlanes]
    cases v.cal.target with
    | none => rfl
    | some i =>
      dsimp only [Option.map_some]
      cases (v.site i).lane <;> rfl

end Sys2Proof.Machine
end

section
/-! PROOFS. The requests that only read: the table entries of READ TABLE (R12), the counts and the ring of READ SITE COUNTS (R59, R60), the record of READ SITE ANALYSIS (R83 to R85). -/

namespace Sys2Proof.Machine

/-- A table entry is read from the tables alone (R12). -/
theorem State.readEntry_congr {s t : State} (h : t.tables = s.tables) (id : TableId) (index : Nat) :
    t.readEntry id index = s.readEntry id index := by
  unfold State.readEntry State.trim
  rw [h]

/-- A table entry as it is read has the bytes of its table (section 10.7). -/
theorem State.readEntry_length (s : State) (id : TableId) (index : Nat) : (s.readEntry id index).length = id.entrySize := by
  cases id with
  | calOrder =>
    unfold State.readEntry
    dsimp only
    split_ifs <;> rfl
  | _ => rfl

/-- A condition code (section 10.6). -/
theorem Condition.code_eq (k : Condition) : k.code =
    match k with
    | .disabled => 0
    | .enabled => 1
    | .dropped .unrepairable => 2
    | .dropped .headFault => 3 := by
  obtain _ | _ | cause := k
  · rfl
  · rfl
  · cases cause <;> rfl

/-- A hold status code (section 10.6). -/
theorem Hold.code_eq (k : Hold) : k.code =
    match k with
    | .free => 0
    | .pending => 1
    | .granted => 2 := by
  cases k <;> rfl

/-- Two columns packed in three bytes, as numbers (section 10.6). -/
theorem packCols_eq (a b : Col) :
    packCols a b = [byteOf (a.toNat / 16), byteOf (a.toNat % 16 * 16 + b.toNat / 256), byteOf (b.toNat % 256)] := by
  have hx : (a ++ b).toNat = a.toNat * 4096 + b.toNat := by
    rw [BitVec.toNat_append, ← Nat.shiftLeft_add_eq_or_of_lt b.isLt, Nat.shiftLeft_eq]
  have hb := b.isLt
  have hbyte (k n : Nat) (h : (a.toNat * 4096 + b.toNat) / 2 ^ k % 256 = n % 256) :
      (a ++ b).extractLsb' k 8 = byteOf n :=
    BitVec.eq_of_toNat_eq (by
      rw [BitVec.extractLsb'_toNat, hx, Nat.shiftRight_eq_div_pow, byteOf, BitVec.toNat_ofNat]
      exact h)
  simp only [packCols]
  rw [hbyte 16 (a.toNat / 16) (by omega), hbyte 8 (a.toNat % 16 * 16 + b.toNat / 256) (by omega),
    hbyte 0 (b.toNat % 256) (by omega)]

/-- A list cut or filled to four members, member by member. -/
theorem padTo_four {α : Type} (z : α) (l : List α) : padTo 4 z l = [l.getD 0 z, l.getD 1 z, l.getD 2 z, l.getD 3 z] := by
  match l with
  | [] => rfl
  | [_] => rfl
  | [_, _] => rfl
  | [_, _, _] => rfl
  | _ :: _ :: _ :: _ :: rest => simp [padTo]

/-- A member of a stretch of a list, or the filling beyond its end. -/
theorem getD_take_drop {α : Type} (l : List α) (first n i : Nat) (z : α) :
    ((l.drop first).take n).getD i z = if i < min n (l.length - first) then l.getD (first + i) z else z := by
  simp only [List.getD_eq_getElem?_getD, List.getElem?_take, List.getElem?_drop]
  split_ifs with hn hmin hmin
  · rfl
  · rw [List.getElem?_eq_none (by omega)]; rfl
  · omega
  · rfl

/-- A region state code (section 10.3). -/
theorem RegionState.code_eq (k : RegionState) : k.code =
    match k with
    | .clean => 0
    | .repairable => 1
    | .unrepairable => 2 := by
  cases k <;> rfl

/-- The site or region that a byte in its range names. -/
theorem ofNat_of_toNat {n : Nat} [NeZero n] {x : Byte} {i : Fin n} (h : x.toNat = i.val) : Fin.ofNat n x.toNat = i :=
  Fin.ext ((Nat.mod_eq_of_lt (h ▸ i.isLt)).trans h)

/-- Settles O46, by the ranges of each request and the bytes of its report. -/
theorem readRequestsOnlyAnswer : Obligations.ReadRequestsOnlyAnswer := by
  unfold Obligations.ReadRequestsOnlyAnswer
  intro s c
  refine ⟨?table, ?counts, ?analysis, fun x site => ?countsData, ?ringData, ?recordData⟩
  case table =>
    intro table start rest h u
    have hexec : exec (.readTable c table start rest) s = .next (u.reqReadTable c table start) :=
      exec_of_executes (run := fun t => t.reqReadTable c table start) rfl h
    have htables : u.tables = s.tables := s.controlSlot_tables c 0x11 (table :: start :: rest)
    clear_value u
    rw [State.reqReadTable, State.readTable] at hexec
    refine ⟨fun hid => ?_, fun t hid => ⟨fun hlast => ?_, ?_⟩⟩
    · rw [hexec, hid, State.answer_eq]; rfl
    · rw [hexec, hid]
      simp only [if_pos hlast, State.answer_eq]
      rfl
    · intro hlast n entries
      refine ⟨fun b hb => ?_, ?_⟩
      · obtain ⟨j, -, rfl⟩ := List.mem_map.1 hb
        exact s.readEntry_length t _
      · rw [hexec, hid]
        simp only [if_neg (Nat.not_lt.2 hlast), State.answer_eq, State.readEntry_congr htables]
        rfl
  case counts =>
    intro site chunk rest h u
    have hexec : exec (.readSiteCounts c site chunk rest) s = .next (u.reqReadSiteCounts c site chunk) :=
      exec_of_executes (run := fun t => t.reqReadSiteCounts c site chunk) rfl h
    clear_value u
    refine ⟨fun hrange => ?_, fun i hi hchunk => ?_⟩
    · rw [hexec, State.reqReadSiteCounts, if_pos hrange, State.answer_eq]; rfl
    · rw [hexec, State.reqReadSiteCounts, if_neg (by omega), ofNat_of_toNat hi]
      simp only [State.answer_eq]
      rfl
  case analysis =>
    intro site region chunk rest h u
    have hexec : exec (.readSiteAnalysis c site region chunk rest) s = .next (u.reqReadSiteAnalysis c site region chunk) :=
      exec_of_executes (run := fun t => t.reqReadSiteAnalysis c site region chunk) rfl h
    clear_value u
    refine ⟨fun hrange => ?_, fun i g hi hg hchunk => ?_⟩
    · rw [hexec, State.reqReadSiteAnalysis, if_pos hrange, State.answer_eq]; rfl
    · rw [hexec, State.reqReadSiteAnalysis, if_neg (by omega), ofNat_of_toNat hi, ofNat_of_toNat hg]
      simp only [State.answer_eq]
      rfl
  case countsData =>
    rw [Site.countsData, Condition.code_eq, Hold.code_eq, Nat.mul_comm]
    rfl
  case ringData =>
    intro x chunk here
    rw [Site.ringData]
    simp only [Nat.mul_comm _ 16]
    rfl
  case recordData =>
    intro packed code
    have hcode (k : RegionState) : k.code = code k := k.code_eq
    have hpacked (a b : Col) : packCols a b = packed a b := packCols_eq a b
    refine ⟨?_, ?_⟩
    · intro r verdict site region row col
      simp only [Record.headData, padTo_four, hcode, hpacked, Nat.mul_comm _ 16, Nat.mul_comm _ 4, Nat.mul_comm _ 8]
      rfl
    · intro r site region chunk hchunk first n pair
      have hpair (i : Nat) : ((r.sparse.drop (6 * (chunk.toNat - 1))).take 6).getD i (0, 0) = pair i :=
        getD_take_drop r.sparse first 6 i (0, 0)
      have hlength : ((r.sparse.drop first).take 6).length = n := by simp [n]
      simp only [Record.sparseData, pairsData, hpacked, Nat.mul_comm _ 16]
      rw [hlength]
      simp only [hpair, List.append_assoc]

end Sys2Proof.Machine
end

section
/-! PROOFS. The rotation: ticks, the interval expiry and the walk of the order table (R110, R113, R114, R117); and the scan of a stage, phase by phase (R109, R115). -/

namespace Sys2Proof.Machine

/-- The walk finds nothing where no position is eligible (R114). -/
theorem State.walk_eq_none {s : State}
    (h : ∀ j < s.tables.orderLength, s.eligible (s.orderAt ((s.cal.index.val + j) % s.tables.orderLength)) = false) :
    s.walk = none := by
  simp only [State.walk, List.find?_eq_none, List.mem_map, List.mem_range]
  rintro _ ⟨j, hj, rfl⟩
  rw [h j hj]
  exact Bool.false_ne_true

/-- The walk finds the first eligible position from the rotation index on (R114). -/
theorem State.walk_eq_some {s : State} {j : Nat} (hj : j < s.tables.orderLength)
    (h : s.eligible (s.orderAt ((s.cal.index.val + j) % s.tables.orderLength)) = true)
    (hfirst : ∀ k < j, s.eligible (s.orderAt ((s.cal.index.val + k) % s.tables.orderLength)) = false) :
    s.walk = some ((s.cal.index.val + j) % s.tables.orderLength) := by
  simp only [State.walk, List.find?_map, Function.comp_def]
  rw [List.find?_range_eq_some.2 ⟨h, List.mem_range.2 hj, fun k hk => by rw [hfirst k hk]; rfl⟩]
  rfl

/-- Settles O36, by the interval count and by the position that the walk finds. -/
theorem ticksAndRunStarts : Obligations.TicksAndRunStarts := by
  unfold Obligations.TicksAndRunStarts
  refine ⟨fun s => ?ticks, ?starts⟩
  case ticks =>
    have htick : exec .calibrationTick s = .next s.begin.tick := rfl
    have hexpiry : exec .intervalCountExpiry s =
        .next (if s.cal.running && s.cal.count.toNat ≤ 1 then s.begin.intervalExpiry else s.begin) := rfl
    rw [htick, hexpiry]
    refine ⟨fun hrun => ?_, fun hrun hcount => ?_, fun hrun hcount => ?_⟩
    · simp [State.tick, hrun]
    · have hmore : ¬s.cal.count.toNat ≤ 1 := Nat.not_le.2 hcount
      have hone : (1 : Half) ≤ s.cal.count := by rw [BitVec.le_def]; exact hcount.le
      refine ⟨⟨_, rfl, ?_⟩, by simp [hmore]⟩
      simp only [State.tick, State.begin_cal, hrun, if_true, if_neg hmore]
      refine ⟨?_, trivial⟩
      rw [BitVec.toNat_sub_of_le hone]
      exact Nat.sub_add_cancel hcount.le
    · simp [State.tick, hrun, hcount, State.intervalExpiry]
  case starts =>
    intro s hlow hhigh n siteAt eligible ready
    have hexec : exec .calibrationRunStart s = .next s.begin.attemptRun := rfl
    have heligible (j : Nat) :
        s.begin.eligible (s.begin.orderAt ((s.begin.cal.index.val + j) % s.begin.tables.orderLength)) = true ↔ eligible j :=
      s.begin.eligible_iff _
    have hnot {j : Nat} (h : ¬eligible j) :
        s.begin.eligible (s.begin.orderAt ((s.begin.cal.index.val + j) % s.begin.tables.orderLength)) = false :=
      Bool.eq_false_iff.2 fun e => h ((heligible j).1 e)
    have hready (h : ready) : (s.begin.cal.running && s.begin.cal.due && s.begin.cal.spare == .idle) = true := by
      simp [h.1, h.2.1, h.2.2]
    refine ⟨hexec, fun hidle => ?_, fun hr hnone => ?_, fun j hj hr hel hfirst => ?_⟩
    · obtain ⟨h, -⟩ | ⟨h, -⟩ := attemptRun_cases s.begin
      · rw [hexec, h]
      · exact absurd h hidle
    · have hwalk := State.walk_eq_none (s := s.begin) fun j hj => hnot (hnone j hj)
      rw [hexec, State.attemptRun, if_pos (hready hr), hwalk]
      rfl
    · have hwalk := State.walk_eq_some (s := s.begin) hj ((heligible j).2 hel) fun k hk => hnot (hfirst k hk)
      rw [hexec, State.attemptRun, if_pos (hready hr), hwalk]
      refine ⟨_, rfl, ?_, rfl⟩
      have hlt : ((s.cal.index.val + j) % n + 1) % n < n := Nat.mod_lt _ hlow
      exact Nat.mod_eq_of_lt (hlt.trans_le hhigh)

/-- A scan after a list of word periods: their number, whether the words of the phase under test agree so far, and the phases whose sixteen words agreed (R115). -/
structure Scanned (ws : List WordPair) (x : Scan) : Prop where
  words : x.words = ws.length
  agreed : x.agreed = (ws.drop (16 * (ws.length / 16))).all wordsAgree
  passed : ∀ p < 64, x.passed.getLsbD p = (decide (p < ws.length / 16) && ((ws.drop (16 * p)).take 16).all wordsAgree)

/-- A phase that is complete already reads the same words after one word more. -/
theorem phase_append {ws : List WordPair} {p : Nat} (h : 16 * p + 16 ≤ ws.length) (w : WordPair) :
    ((ws ++ [w]).drop (16 * p)).take 16 = (ws.drop (16 * p)).take 16 := by
  rw [List.drop_append_of_le_length (by omega), List.take_append_of_le_length (by rw [List.length_drop]; omega)]

/-- One word period more of a scan (R115). -/
theorem Scanned.compare {ws : List WordPair} {x : Scan} (h : Scanned ws x) (hlen : ws.length < 1024) (w : WordPair) :
    Scanned (ws ++ [w]) (x.compare w) := by
  have hwords := h.words
  have hagreed : (x.agreed && wordsAgree w) = ((ws ++ [w]).drop (16 * (ws.length / 16))).all wordsAgree := by
    rw [h.agreed, List.drop_append_of_le_length (by omega), List.all_append]
    simp
  have hlength : (ws ++ [w]).length = ws.length + 1 := by simp
  have hlater {q : Nat} (hq : ws.length / 16 = q) {p : Nat} (hp : p < q) :
      ((ws ++ [w]).drop (16 * p)).take 16 = (ws.drop (16 * p)).take 16 := phase_append (by omega) w
  unfold Scan.compare
  rw [if_neg (by omega), hwords]
  dsimp only
  by_cases hlast : ws.length % 16 = 15
  · rw [if_pos hlast]
    have hphases : (ws.length + 1) / 16 = ws.length / 16 + 1 := by omega
    refine ⟨hlength.symm, ?_, fun p hp => ?_⟩
    · rw [hlength, hphases, List.drop_of_length_le (by omega)]; rfl
    · rw [hlength, hphases]
      have hbit : (1#64 <<< (ws.length / 16)).getLsbD p = decide (p = ws.length / 16) := by
        rw [BitVec.getLsbD_shiftLeft, BitVec.getLsbD_one]
        by_cases hp' : p = ws.length / 16
        · simp [hp', (by omega : ws.length / 16 < 64)]
        · by_cases hlt : p < ws.length / 16 <;> simp [hp', hp, hlt]; omega
      have hsplit : (if (x.agreed && wordsAgree w) = true then x.passed ||| 1#64 <<< (ws.length / 16) else x.passed).getLsbD p =
          (x.passed.getLsbD p || (decide (p = ws.length / 16) && (x.agreed && wordsAgree w))) := by
        split_ifs with hok
        · rw [BitVec.getLsbD_or, hbit, hok, Bool.and_true]
        · rw [Bool.eq_false_iff.2 hok, Bool.and_false, Bool.or_false]
      rw [hsplit, h.passed p hp, hagreed]
      obtain hlt | rfl | hgt := Nat.lt_trichotomy p (ws.length / 16)
      · rw [hlater rfl hlt]
        simp [hlt, hlt.ne, Nat.lt_succ_of_lt hlt]
      · have htake : ((ws ++ [w]).drop (16 * (ws.length / 16))).take 16 = (ws ++ [w]).drop (16 * (ws.length / 16)) :=
          List.take_of_length_le (by rw [List.length_drop, hlength]; omega)
        simp [htake]
      · have hbeyond : ¬p < ws.length / 16 + 1 := by omega
        rw [decide_eq_false hbeyond, decide_eq_false (not_lt.2 hgt.le), decide_eq_false hgt.ne']
        rfl
  · rw [if_neg hlast]
    have hphases : (ws.length + 1) / 16 = ws.length / 16 := by omega
    refine ⟨hlength.symm, ?_, fun p hp => ?_⟩
    · rw [hlength, hphases, hagreed]
    · rw [hlength, hphases, h.passed p hp]
      by_cases hlt : p < ws.length / 16
      · rw [hlater rfl hlt]
      · simp [hlt]

/-- A scan of at most 1024 word periods from its start (R115). -/
theorem scanned_foldl {ws : List WordPair} (hlen : ws.length ≤ 1024) : Scanned ws (ws.foldl Scan.compare {}) := by
  induction ws using List.reverseRecOn with
  | nil => exact ⟨rfl, rfl, fun p _ => by simp⟩
  | append_singleton ws w ih =>
    rw [List.length_append, List.length_singleton] at hlen
    rw [List.foldl_append]
    exact (ih (by omega)).compare (by omega) w

/-- The check of a return word is its parity and its kind code (R26, section 10.4). -/
theorem passesCheck_eq (w : BitVec 36) : passesCheck w = (oddOnes w && decide ((w.extractLsb' 0 3).toNat ≤ 4)) := by
  unfold passesCheck decodeReturnWord
  cases oddOnes w with
  | false => rfl
  | true =>
    have hkind : (w.extractLsb' 0 3).toNat < 8 := (w.extractLsb' 0 3).isLt
    generalize (w.extractLsb' 0 3).toNat = kind at hkind ⊢
    interval_cases kind <;> rfl

/-- Settles O34, by the scan word by word and the check of each carrier word. -/
theorem scanPassesThePhasesThatAgree : Obligations.ScanPassesThePhasesThatAgree := by
  unfold Obligations.ScanPassesThePhasesThatAgree
  refine ⟨?_, fun p => ?_, fun words => ?_⟩
  · intro words hlen scan
    obtain ⟨hwords, -, hpassed⟩ := scanned_foldl hlen.le
    refine ⟨hwords.trans hlen, fun p => ?_⟩
    rw [hpassed p.val p.isLt, hlen, decide_eq_true (by omega), Bool.true_and]
  · simp [wordsAgree, and_assoc]
  · exact List.filter_congr fun p _ => passesCheck_eq p.reference

end Sys2Proof.Machine
end

section
/-! PROOFS. The stages of a run: what the word periods of a row, or of a lane word error, bring each stage to (R118 to R123, R127). -/

namespace Sys2Proof.Machine

/-- A state that reads the run in progress as another does: the same calibration items, tables and lanes. -/
structure SameRun (s u : State) : Prop where
  cal : u.cal = s.cal
  tables : u.tables = s.tables
  lane : ∀ i, (u.site i).lane = (s.site i).lane

/-- The stage of a run is read from the calibration items and the lanes (R108). -/
theorem SameRun.stage {s u : State} (h : SameRun s u) : u.stage = s.stage := by
  unfold State.stage
  rw [h.cal]
  cases s.cal.target with
  | none => rfl
  | some i => simp only [h.lane]

/-- The state from which a step starts reads the same run. -/
theorem sameRun_begin (s : State) : SameRun s s.begin := ⟨rfl, rfl, fun _ => rfl⟩

/-- A lane word error compares the word in a state that counts it and reads the same run (R26, R127). -/
theorem Spoils.exec_eq {s u : State} {i : SiteNo} {row : Instr} {given : List WordPair} (h : Spoils s i row given u) :
    SameRun s u ∧ ∃ word, given = [word] ∧ exec row s = .next (u.comparePeriod i word) := by
  obtain ⟨word, rfl, rfl, rfl⟩ := h
  refine ⟨⟨rfl, rfl, fun j => ?_⟩, word, rfl, rfl⟩
  rw [State.site_setSite]
  split_ifs with hj
  · rw [hj]
  · rfl

/-- A row of a stage's words, or a lane word error on its lane, gives its word periods to the stage (R118 to R122, R127). -/
theorem exec_given {s u : State} {i : SiteNo} {row : Instr} {given : List WordPair} {act : State → List WordPair → State}
    {P : List WordPair → Prop}
    (hperiod : ∀ t word, SameRun s t → t.comparePeriod i word = act t [word])
    (hrow : ∀ words, P words → exec row s = .next (act s.begin (passedPeriods words)))
    (h : (∃ words, P words ∧ given = passedPeriods words ∧ u = s.begin) ∨ Spoils s i row given u) :
    SameRun s u ∧ exec row s = .next (act u given) := by
  obtain ⟨words, hp, rfl, rfl⟩ | h := h
  · exact ⟨sameRun_begin s, hrow words hp⟩
  · obtain ⟨hu, word, rfl, hexec⟩ := h.exec_eq
    exact ⟨hu, by rw [hexec, hperiod u word hu]⟩

/-- A word period of a lane error, given to the stage on the lane of the target (R127). -/
theorem State.comparePeriod_of_target {s : State} {i : SiteNo} (ht : s.cal.target = some i) (p : WordPair) :
    s.comparePeriod i p = match s.stage with
      | .trainingScan i => s.trainWords i [p]
      | .shadow _ => s.shadowWords [p]
      | .offlineScan i => s.offlineWords i [p]
      | .soak i => s.soakWords i [p]
      | .none => s :=
  if_pos ht

/-- A training failure ends the run on the target's lane (R118, R119). -/
theorem trainingFailure_of_target {s : State} {i : SiteNo} (ht : s.cal.target = some i) :
    s.trainingFailure = State.attemptRun { s.setSite i { s.site i with lane := .online } with
      cal := { s.cal.released with trainingFailures := satAdd s.cal.trainingFailures 1 } } := by
  exact endRun_of_target { s with cal := { s.cal with trainingFailures := satAdd s.cal.trainingFailures 1 } } i ht

/-- An attempt failure with attempts left begins an offline scan again (R123). -/
theorem attemptFailure_of_retry {s : State} (i : SiteNo) (h : s.cal.attempts + 1 < 3) :
    s.attemptFailure i = { s.setSite i { s.site i with lane := .offlineCal } with
      cal := { s.cal.offline with attempts := s.cal.attempts + 1 } } := by
  unfold State.attemptFailure
  dsimp only
  rw [if_pos h]
  rfl

/-- The third attempt failure degrades the lane and commits the spare (R123). -/
theorem attemptFailure_of_third {s : State} (i : SiteNo) (h : 3 ≤ s.cal.attempts + 1) :
    s.attemptFailure i = State.raiseFlag
      { s.setSite i { s.site i with lane := .degraded, flags := { (s.site i).flags with laneDegraded := true } } with
        cal := { s.cal.offline with spare := .committed, attempts := s.cal.attempts + 1 } } .laneDegraded := by
  unfold State.attemptFailure
  dsimp only
  rw [if_neg (Nat.not_lt.2 h)]
  rfl

/-- The training scan after a list of word periods: in progress, ended with a found phase, or a training failure (R118). -/
theorem trainWords_spec {s : State} {i : SiteNo} (ht : s.cal.target = some i) (hlane : (s.site i).lane = .online)
    (words : List WordPair) :
    let scan := words.foldl Scan.compare s.cal.scan
    (scan.words < 1024 → s.trainWords i words = { s with cal := { s.cal with scan := scan } }) ∧
    (1024 ≤ scan.words → ∀ p : Phase, foundPhase scan.passed = some p →
      s.trainWords i words = { s.setSite i { s.site i with lane := .shadowed } with
        cal := { s.cal with found := some p, scan := {}, words := 0, run := 0 } }) ∧
    (1024 ≤ scan.words → foundPhase scan.passed = none →
      s.trainWords i words = State.attemptRun { s with
        cal := { s.cal.released with trainingFailures := satAdd s.cal.trainingFailures 1 } }) := by
  intro scan
  have hscan : (s.scanWords words).cal.scan = scan := rfl
  simp only [State.trainWords, hscan]
  refine ⟨fun hlt => ?_, fun hge p hp => ?_, fun hge hnone => ?_⟩
  · rw [if_pos hlt]; rfl
  · rw [if_neg (Nat.not_lt.2 hge), hp]; rfl
  · rw [if_neg (Nat.not_lt.2 hge), hnone]
    have hfail := trainingFailure_of_target (s := s.scanWords words) ht
    have hsame : (s.scanWords words).setSite i { (s.scanWords words).site i with lane := .online } = s.scanWords words := by
      rw [← hlane]; exact (s.scanWords words).setSite_site i
    rw [hsame] at hfail
    exact hfail

/-- The offline scan after a list of word periods: in progress, ended with a working phase, or an attempt failure (R120, R121, R123). -/
theorem offlineWords_spec {s : State} {i : SiteNo} (hlane : (s.site i).lane = .offlineCal) (words : List WordPair) :
    let scan := words.foldl Scan.compare s.cal.scan
    let attempts := s.cal.attempts + 1
    (scan.words < 1024 → s.offlineWords i words = { s with cal := { s.cal with scan := scan } }) ∧
    (1024 ≤ scan.words → ∀ p : Phase, foundPhase scan.passed = some p →
      s.offlineWords i words = { s.setSite i { s.site i with lane := .soak } with
        cal := { s.cal with working := some p, scan := {}, words := 0, run := 0, soakLength := s.tables.soak.toNat } }) ∧
    (1024 ≤ scan.words → foundPhase scan.passed = none → attempts < 3 →
      s.offlineWords i words = { s with cal := { s.cal.offline with attempts := attempts } }) ∧
    (1024 ≤ scan.words → foundPhase scan.passed = none → 3 ≤ attempts →
      s.offlineWords i words = State.raiseFlag
        { s.setSite i { s.site i with lane := .degraded, flags := { (s.site i).flags with laneDegraded := true } } with
          cal := { s.cal.offline with spare := .committed, attempts := attempts } } .laneDegraded) := by
  intro scan attempts
  have hscan : (s.scanWords words).cal.scan = scan := rfl
  simp only [State.offlineWords, hscan]
  refine ⟨fun hlt => ?_, fun hge p hp => ?_, fun hge hnone hretry => ?_, fun hge hnone hthird => ?_⟩
  · rw [if_pos hlt]; rfl
  · rw [if_neg (Nat.not_lt.2 hge), hp]; rfl
  · rw [if_neg (Nat.not_lt.2 hge), hnone]
    have hfail := attemptFailure_of_retry (s := s.scanWords words) i hretry
    have hsame : (s.scanWords words).setSite i { (s.scanWords words).site i with lane := .offlineCal } =
        s.scanWords words := by
      rw [← hlane]; exact (s.scanWords words).setSite_site i
    rw [hsame] at hfail
    exact hfail
  · rw [if_neg (Nat.not_lt.2 hge), hnone]
    exact attemptFailure_of_third (s := s.scanWords words) i hthird

/-- Settles O37, by the scan's length and its found phase. -/
theorem trainingAndOfflineScansEnd : Obligations.TrainingAndOfflineScansEnd := by
  unfold Obligations.TrainingAndOfflineScansEnd
  refine ⟨fun words s => ⟨fun h => ?_, fun h => ?_⟩, ?training, ?offline⟩
  · show Host.Outcome.next _ = _
    congr 1
    split
    · rename_i i hi; exact absurd hi (h i)
    · rfl
  · show Host.Outcome.next _ = _
    congr 1
    split
    · rename_i i hi; exact absurd hi (h i)
    · rfl
  case training =>
    intro row given s u i hspare ht hlane h
    have hstage : s.stage = .trainingScan i := (s.stage_iff i).1.2 ⟨ht, hspare, hlane⟩
    obtain ⟨hu, hexec⟩ := exec_given (act := fun t words => t.trainWords i words)
      (P := fun words => row = .trainingScanEnd words)
      (fun t word hst => by rw [State.comparePeriod_of_target (hst.cal ▸ ht), hst.stage, hstage])
      (fun words hw => by subst hw; show Host.Outcome.next _ = _; rw [hstage]) h
    obtain ⟨hrunning, hfound, hfailed⟩ := trainWords_spec (hu.cal ▸ ht) ((hu.lane i).trans hlane) given
    rw [hexec, ← hu.cal]
    exact ⟨fun hlt => congrArg _ (hrunning hlt), fun hge p hp => congrArg _ (hfound hge p hp),
      fun hge hnone => congrArg _ (hfailed hge hnone)⟩
  case offline =>
    intro row given s u i hspare ht hlane h
    have hstage : s.stage = .offlineScan i := (s.stage_iff i).2.2.1.2 ⟨ht, hspare, hlane⟩
    obtain ⟨hu, hexec⟩ := exec_given (act := fun t words => t.offlineWords i words)
      (P := fun words => row = .offlineScanEnd words)
      (fun t word hst => by rw [State.comparePeriod_of_target (hst.cal ▸ ht), hst.stage, hstage])
      (fun words hw => by subst hw; show Host.Outcome.next _ = _; rw [hstage]) h
    obtain ⟨hrunning, hfound, hretry, hthird⟩ := offlineWords_spec ((hu.lane i).trans hlane) given
    rw [hexec, ← hu.cal, ← hu.tables]
    exact ⟨fun hlt => congrArg _ (hrunning hlt), fun hge p hp => congrArg _ (hfound hge p hp),
      fun hge hnone hlt => congrArg _ (hretry hge hnone hlt), fun hge hnone hlast => congrArg _ (hthird hge hnone hlast)⟩

end Sys2Proof.Machine
end

section
/-! PROOFS. Shadow agreement with the handover, and the soak with the hand-back (R119 to R122, R127). -/

namespace Sys2Proof.Machine

/-- Shadow agreement after a list of word periods: succeeded, in progress, or a training failure (R119). -/
theorem shadowWords_spec {s : State} {i : SiteNo} (ht : s.cal.target = some i) (words : List WordPair) :
    let n := words.foldl shadowWord (s.cal.words, s.cal.run)
    let counted : Cal := { s.cal with words := n.1, run := n.2 }
    (64 ≤ n.2 → s.shadowWords words = { s with cal := { counted with boundary := some .handover } }) ∧
    (n.2 < 64 → n.1 < 1024 → s.shadowWords words = { s with cal := counted }) ∧
    (n.2 < 64 → 1024 ≤ n.1 → s.shadowWords words = State.attemptRun { s.setSite i { s.site i with lane := .online } with
      cal := { s.cal.released with trainingFailures := satAdd s.cal.trainingFailures 1 } }) := by
  intro n counted
  unfold State.shadowWords
  dsimp only
  refine ⟨fun hdone => ?_, fun hrun hleft => ?_, fun hrun hover => ?_⟩
  · rw [if_pos hdone]
  · rw [if_neg (Nat.not_le.2 hrun), if_neg (Nat.not_le.2 hleft)]
  · rw [if_neg (Nat.not_le.2 hrun), if_pos hover]
    exact trainingFailure_of_target (s := { s with cal := counted }) ht

/-- A soak after a list of word periods: failed by a disagreement, in progress, or succeeded (R121, R123). -/
theorem soakWords_spec (s : State) (i : SiteNo) (words : List WordPair) :
    let done := words.foldl (soakWord s.cal.soakLength) (s.cal.words, false)
    let attempts := s.cal.attempts + 1
    (done.2 = true → attempts < 3 → s.soakWords i words = { s.setSite i { s.site i with lane := .offlineCal } with
      cal := { s.cal.offline with attempts := attempts } }) ∧
    (done.2 = true → 3 ≤ attempts → s.soakWords i words = State.raiseFlag
      { s.setSite i { s.site i with lane := .degraded, flags := { (s.site i).flags with laneDegraded := true } } with
        cal := { s.cal.offline with spare := .committed, attempts := attempts } } .laneDegraded) ∧
    (done.2 = false → done.1 < s.cal.soakLength → s.soakWords i words = { s with cal := { s.cal with words := done.1 } }) ∧
    (done.2 = false → s.cal.soakLength ≤ done.1 →
      s.soakWords i words = { s with cal := { s.cal with words := done.1, boundary := some .handBack } }) := by
  intro done attempts
  unfold State.soakWords
  dsimp only
  refine ⟨fun hbad hretry => ?_, fun hbad hthird => ?_, fun hgood hleft => ?_, fun hgood hlast => ?_⟩
  · rw [if_pos hbad]
    exact attemptFailure_of_retry (s := { s with cal := { s.cal with words := done.1 } }) i hretry
  · rw [if_pos hbad]
    exact attemptFailure_of_third (s := { s with cal := { s.cal with words := done.1 } }) i hthird
  · rw [if_neg (Bool.eq_false_iff.1 hgood), if_neg (Nat.not_le.2 hleft)]
  · rw [if_neg (Bool.eq_false_iff.1 hgood), if_pos hlast]

/-- Agreeing words raise the count and the run of shadow agreement one by one (R119). -/
theorem shadowWord_agreeing {agreeing : List WordPair} (h : ∀ p ∈ agreeing, wordsAgree p = true) {n r : Nat}
    (hr : r + agreeing.length ≤ 64) (hn : n + agreeing.length ≤ 1024) :
    agreeing.foldl shadowWord (n, r) = (n + agreeing.length, r + agreeing.length) := by
  induction agreeing generalizing n r with
  | nil => rfl
  | cons p l ih =>
    rw [List.length_cons] at hr hn
    have hword : shadowWord (n, r) p = (n + 1, r + 1) := by
      rw [shadowWord, if_neg (by dsimp only; omega), if_pos (h p List.mem_cons_self)]
    rw [List.foldl_cons, hword, ih (fun q hq => h q (List.mem_cons_of_mem p hq)) (by omega) (by omega), List.length_cons]
    simp only [Nat.add_assoc, Nat.add_comm 1]

/-- Agreeing words raise the count of a soak one by one (R121). -/
theorem soakWord_agreeing {agreeing : List WordPair} (h : ∀ p ∈ agreeing, wordsAgree p = true) {length n : Nat}
    (hn : n + agreeing.length ≤ length) :
    agreeing.foldl (soakWord length) (n, false) = (n + agreeing.length, false) := by
  induction agreeing generalizing n with
  | nil => rfl
  | cons p l ih =>
    rw [List.length_cons] at hn
    have hword : soakWord length (n, false) p = (n + 1, false) := by
      rw [soakWord, if_neg (by simp; omega), h p List.mem_cons_self]
      rfl
    rw [List.foldl_cons, hword, ih (fun q hq => h q (List.mem_cons_of_mem p hq)) (by omega), List.length_cons]
    simp only [Nat.add_assoc, Nat.add_comm 1]

/-- A choice by the stage in progress that names one stage falls to the rest where no site is in it. -/
theorem stage_other {α : Type} {s : State} {f : SiteNo → α} {z : α} :
    ((∀ i : SiteNo, s.stage ≠ .shadow i) → (match s.stage with
      | .shadow i => f i
      | _ => z) = z) ∧
    ((∀ i : SiteNo, s.stage ≠ .soak i) → (match s.stage with
      | .soak i => f i
      | _ => z) = z) := by
  refine ⟨fun h => ?_, fun h => ?_⟩
  all_goals
    split
    · rename_i i hi; exact absurd hi (h i)
    · rfl

/-- Settles O38, by the run of agreeing words and the word count, and by the boundary that is due. -/
theorem shadowAgreementAndHandover : Obligations.ShadowAgreementAndHandover := by
  unfold Obligations.ShadowAgreementAndHandover
  refine ⟨fun words s h => ⟨congrArg _ (stage_other.1 h), congrArg _ (stage_other.1 h), congrArg _ (stage_other.1 h)⟩,
    ?words, fun s i hspare ht hlane => ?handover, fun agreeing n r h hr hn => shadowWord_agreeing h hr hn,
    fun p n r h hr hn => ?disagrees⟩
  case words =>
    intro row given s u i hspare ht hlane h
    have hstage : s.stage = .shadow i := (s.stage_iff i).2.1.2 ⟨ht, hspare, hlane⟩
    obtain ⟨hu, hexec⟩ := exec_given (act := fun t words => t.shadowWords words)
      (P := fun words => row = .shadowAgreementSuccess words ∨ row = .shadowAgreementTimeout words)
      (fun t word hst => by rw [State.comparePeriod_of_target (hst.cal ▸ ht), hst.stage, hstage])
      (fun words hw => by obtain rfl | rfl := hw <;> (show Host.Outcome.next _ = _; rw [hstage])) h
    obtain ⟨hdone, hrunning, hfailed⟩ := shadowWords_spec (hu.cal ▸ ht) given
    rw [hexec, ← hu.cal]
    exact ⟨fun h64 => congrArg _ (hdone h64), fun hrun hleft => congrArg _ (hrunning hrun hleft),
      fun hrun hover => congrArg _ (hfailed hrun hover)⟩
  case handover =>
    have hstage : s.stage = .shadow i := (s.stage_iff i).2.1.2 ⟨ht, hspare, hlane⟩
    have hexec : exec .handover s = .next (if s.cal.boundary = some .handover then s.begin.handOver i else s.begin) := by
      show Host.Outcome.next _ = _
      rw [hstage]
    rw [hexec]
    exact ⟨fun hnot => by rw [if_neg hnot], fun hdue => by rw [if_pos hdue]; rfl⟩
  case disagrees =>
    rw [shadowWord, if_neg (by dsimp only; omega), h]
    rfl

/-- Settles O39, by the first disagreeing word and the soak length, and by the boundary that is due. -/
theorem soakAndHandBack : Obligations.SoakAndHandBack := by
  unfold Obligations.SoakAndHandBack
  refine ⟨fun words s h => ⟨congrArg _ (stage_other.2 h), congrArg _ (stage_other.2 h), congrArg _ (stage_other.2 h)⟩,
    ?words, fun s i hspare ht hlane => ?handBack, fun agreeing length n h hn => soakWord_agreeing h hn,
    fun p length n h hn => ?disagrees⟩
  case words =>
    intro row given s u i hspare ht hlane h
    have hstage : s.stage = .soak i := (s.stage_iff i).2.2.2.2 ⟨ht, hspare, hlane⟩
    obtain ⟨hu, hexec⟩ := exec_given (act := fun t words => t.soakWords i words)
      (P := fun words => row = .soakDisagreement words ∨ row = .soakSuccess words)
      (fun t word hst => by rw [State.comparePeriod_of_target (hst.cal ▸ ht), hst.stage, hstage])
      (fun words hw => by obtain rfl | rfl := hw <;> (show Host.Outcome.next _ = _; rw [hstage])) h
    obtain ⟨hretry, hthird, hrunning, hdone⟩ := soakWords_spec u i given
    rw [hexec, ← hu.cal]
    exact ⟨fun hbad hlt => congrArg _ (hretry hbad hlt), fun hbad hlast => congrArg _ (hthird hbad hlast),
      fun hgood hleft => congrArg _ (hrunning hgood hleft), fun hgood hlast => congrArg _ (hdone hgood hlast)⟩
  case handBack =>
    have hstage : s.stage = .soak i := (s.stage_iff i).2.2.2.2 ⟨ht, hspare, hlane⟩
    have hexec : exec .handBack s = .next (if s.cal.boundary = some .handBack then s.begin.completeRun i else s.begin) := by
      show Host.Outcome.next _ = _
      rw [hstage]
    rw [hexec]
    refine ⟨fun hnot => by rw [if_neg hnot], fun p hdue hp => ?_⟩
    have hphase : s.begin.cal.working.getD (s.begin.trim i).phase = p := by rw [State.begin_cal, hp]; rfl
    rw [if_pos hdue, completeRun_spec, hphase]
    rfl
  case disagrees =>
    rw [soakWord, if_neg (by simp; omega), h]
    rfl

end Sys2Proof.Machine
end

section
/-! PROOFS. The end of a drain and the summaries in site order (R96 to R101), with the SUMMARY record byte by byte (section 10.3). -/

namespace Sys2Proof.Machine

/-- A step that adds to the report queue, if anything, behind what is there (R160). -/
def ReportsJoin (s t : State) : Prop := s.ret.reports <+: t.ret.reports

/-- A notice that becomes due joins the report queue behind what is there, if it enters (R168). -/
theorem noticeDue_joins (s : State) (f : NoticeFlag) : ReportsJoin s (s.noticeDue f) := by
  obtain ⟨h, -⟩ | ⟨-, ⟨h, -⟩ | ⟨h, -⟩⟩ := noticeDue_cases s f <;> rw [h]
  · exact List.prefix_append s.ret.reports _
  · exact List.prefix_rfl
  · exact List.prefix_rfl

/-- The setting of a flag joins at most its notice to the report queue (R166). -/
theorem raiseFlag_joins (s : State) (f : NoticeFlag) : ReportsJoin s (s.raiseFlag f) := by
  unfold State.raiseFlag
  split
  · exact List.prefix_rfl
  · dsimp only
    split
    · exact noticeDue_joins { s with notice := { s.notice with flags := s.notice.flags ||| f.set } } f
    · exact List.prefix_rfl

/-- Pending notices that take places join the report queue behind what is there (R168). -/
theorem admitNotices_joins (n : Nat) (s : State) : ReportsJoin s (s.admitNotices n) := by
  induction n generalizing s with
  | zero => exact List.prefix_rfl
  | succ n ih =>
    have hone : ReportsJoin s s.admitNotice := by
      obtain h | ⟨f, rest, -, -, -, h⟩ := admitNotice_cases s <;> rw [h]
      · exact List.prefix_rfl
      · exact List.prefix_append s.ret.reports _
    exact hone.trans (ih s.admitNotice)

/-- The close of a pass joins notices to the report queue behind what is there (R101, R168). -/
theorem passClosed_joins (s : State) : ReportsJoin s s.passClosed :=
  (admitNotices_joins s.notice.waiting.length { s with pass := { s.pass with state := .closed, summary := none } }).trans
    (raiseFlag_joins _ .passClosed)

/-- A notice flag that is set is set (R165, R166). -/
theorem raiseFlag_sets (s : State) (f : NoticeFlag) : bitOf (s.raiseFlag f).notice.flags f.bit = true := by
  by_cases h : bitOf s.notice.flags f.bit = true
  · rw [raiseFlag_of_set s f h, h]
  · have hbit : bitOf (s.notice.flags ||| f.set) f.bit = true := by
      unfold bitOf NoticeFlag.set
      cases f <;> simp [NoticeFlag.bit]
    rw [Bool.not_eq_true] at h
    cases hm : bitOf s.notice.mask f.bit with
    | false => rw [raiseFlag_of_silent s f h hm]; exact hbit
    | true =>
      rw [raiseFlag_of_masked s f h hm]
      obtain ⟨e, -⟩ | ⟨-, ⟨e, -⟩ | ⟨e, -⟩⟩ := noticeDue_cases { s with notice := { s.notice with flags := s.notice.flags ||| f.set } } f
      all_goals rw [e]; exact hbit

/-- The pass after it is closed: CLOSED, the summary position absent, PASS_CLOSED set (R101). -/
theorem passClosed_pass (s : State) : s.passClosed.pass = { s.pass with state := .closed, summary := none } ∧
    bitOf s.passClosed.notice.flags 5 = true := by
  refine ⟨?_, raiseFlag_sets _ .passClosed⟩
  rw [State.passClosed, State.raiseFlag_pass]
  exact (admitNotices_settled _ rfl (Nat.le_refl _)).2

/-- What a list begins with. -/
theorem take_of_prefix {α : Type} {l m : List α} (h : l <+: m) : m.take l.length = l := (List.prefix_iff_eq_take.1 h).symm

/-- Summaries that take places from a site on, at most m of them, to site 15: as many as there are places enter in site order; where all have, the pass is closed (R98, R101). -/
theorem enqueueSummaries_spec (m : Nat) {s : State} {k : SiteNo} (hk : s.pass.summary = some k) (hm : k.val + m = 16)
    (hst : s.pass.state = .closing) (hlen : s.ret.reports.length ≤ 32) :
    let n := min m (32 - s.ret.reports.length)
    let t := s.enqueueSummaries m
    s.ret.reports ++ ((allSites.drop k.val).take n).map s.summaryFrame <+: t.ret.reports ∧
    (n < m → t.pass.state = .closing ∧ t.pass.summary = some (Fin.ofNat 16 (k.val + n)) ∧ t.notice = s.notice ∧
      t.ret.reports.length = 32) ∧
    (n = m → t.pass.state = .closed ∧ t.pass.summary = none ∧ bitOf t.notice.flags 5 = true) := by
  induction m generalizing s k with
  | zero => exact absurd k.isLt (by omega)
  | succ m ih =>
    intro n t
    have hdrop : ∀ k : SiteNo, allSites.drop k.val = k :: allSites.drop (k.val + 1) := by decide
    have hsucc : ∀ k : SiteNo, k ≠ 15 → (k + 1).val = k.val + 1 := by decide
    obtain ⟨-, hnone⟩ | ⟨i, hi, hroom, hentered⟩ := enqueueSummary_cases s
    · have hfull : s.reportRoom = false := hnone.resolve_left (by rw [hk]; nofun)
      have hlength : s.ret.reports.length = 32 := by
        have := s.reportRoom_iff.not.1 (by rw [hfull]; exact Bool.false_ne_true)
        omega
      have hn : n = 0 := by simp [n, hlength]
      have ht : t = s := enqueueSummaries_of_settled (.inr hfull) (m + 1)
      rw [hn, ht]
      refine ⟨by simp, fun _ => ⟨hst, ?_, rfl, hlength⟩, fun h => absurd h (Nat.succ_ne_zero m).symm⟩
      rw [hk]
      exact congrArg some (Fin.ext (Nat.mod_eq_of_lt k.isLt).symm)
    · obtain rfl : k = i := Option.some.inj (hk.symm.trans hi)
      have hroom' : s.ret.reports.length < 32 := s.reportRoom_iff.1 hroom
      have ht : t = s.enqueueSummary.enqueueSummaries m := rfl
      obtain ⟨hlast, henter⟩ | ⟨hnot, henter⟩ := hentered
      · obtain rfl : m = 0 := by rw [hlast] at hm; exact Nat.succ.inj (Nat.add_left_cancel (n := 15) hm)
        have hn : n = 1 := by omega
        have ht : t = (s.enqueueReport (s.summaryFrame k)).passClosed := ht.trans henter
        obtain ⟨hpass, hflag⟩ := passClosed_pass (s.enqueueReport (s.summaryFrame k))
        rw [hn, ht, hpass]
        refine ⟨?_, fun h => absurd h (lt_irrefl 1), fun _ => ⟨rfl, rfl, hflag⟩⟩
        rw [hdrop k]
        exact passClosed_joins (s.enqueueReport (s.summaryFrame k))
      · have hnext : (k + 1).val = k.val + 1 := hsucc k hnot
        let u : State := { s.enqueueReport (s.summaryFrame k) with pass := { s.pass with summary := some (k + 1) } }
        have hreports : u.ret.reports = s.ret.reports ++ [s.summaryFrame k] := rfl
        have hcount : u.ret.reports.length = s.ret.reports.length + 1 := by rw [hreports, List.length_append]; rfl
        obtain ⟨hprefix, hmore, hall⟩ := ih (s := u) (k := k + 1) rfl (by omega) hst (by omega)
        have ht : t = u.enqueueSummaries m := ht.trans (congrArg (State.enqueueSummaries · m) henter)
        have hn : n = min m (32 - u.ret.reports.length) + 1 := by omega
        rw [hnext, hreports] at hprefix
        rw [hn, ht, hdrop k, List.take_succ_cons, List.map_cons]
        refine ⟨?_, fun h => ?_, fun h => hall (Nat.succ.inj h)⟩
        · rw [List.append_cons]; exact hprefix
        · obtain ⟨hstate, hsummary, hnotice, hlength⟩ := hmore (Nat.lt_of_succ_lt_succ h)
          refine ⟨hstate, ?_, hnotice, hlength⟩
          rw [hsummary, hnext, Nat.add_right_comm, Nat.add_assoc]

/-- A SUMMARY record byte by byte (R99, section 10.3). -/
theorem summaryFrame_bytes :
    ∀ (s : State) (i : SiteNo),
     let x := s.site i
     let code (state : RegionState) : Nat := match state with
       | .clean => 0
       | .repairable => 1
       | .unrepairable => 2
     let region (g : RegionNo) : Nat := code (x.records.get g).state
     s.summaryFrame i = mkFrame 0x84 (
       [s.source, byteOf i.val, s.pass.number, byteOf (if x.flags.tested then code x.verdict else 3),
        byteOf (region 4 + 4 * region 5 + 16 * region 6 + 64 * region 7),
        byteOf (region 0 + 4 * region 1 + 16 * region 2 + 64 * region 3),
        (match x.condition with
          | .disabled => 0
          | .enabled => 1
          | .dropped .unrepairable => 2
          | .dropped .headFault => 3),
        byteOf ((if x.flags.coverageGap then 1 else 0) + (if x.flags.strobeClamped then 2 else 0) +
          (if x.flags.tested then 4 else 0) + if x.flags.laneDegraded then 8 else 0)] ++
       be32 x.counts.compares ++ be16 x.counts.fails ++ be16 x.counts.lost ++ be16 x.counts.skipped ++
       be16 x.counts.strays) := by
  intro s i x code region
  have hcode (k : RegionState) : k.code = code k := k.code_eq
  have hbound (g : RegionNo) : region g ≤ 2 := by
    show code (x.records.get g).state ≤ 2
    cases (x.records.get g).state <;> decide
  have hsum : allRegions.foldl (fun n g => n + (x.records.get g).state.code * 4 ^ g.val) 0 =
      region 0 + region 1 * 4 + region 2 * 16 + region 3 * 64 + region 4 * 256 + region 5 * 1024 + region 6 * 4096 +
        region 7 * 16384 := by
    simp [allRegions, hcode, region]
  have hhigh : (region 0 + region 1 * 4 + region 2 * 16 + region 3 * 64 + region 4 * 256 + region 5 * 1024 +
      region 6 * 4096 + region 7 * 16384) / 256 = region 4 + 4 * region 5 + 16 * region 6 + 64 * region 7 := by
    have := hbound 0; have := hbound 1; have := hbound 2; have := hbound 3
    omega
  have hlow : (region 0 + region 1 * 4 + region 2 * 16 + region 3 * 64 + region 4 * 256 + region 5 * 1024 +
      region 6 * 4096 + region 7 * 16384) % 256 = region 0 + 4 * region 1 + 16 * region 2 + 64 * region 3 := by
    have := hbound 0; have := hbound 1; have := hbound 2; have := hbound 3
    omega
  have hcond : byteOf x.condition.code = (match x.condition with
      | .disabled => 0
      | .enabled => 1
      | .dropped .unrepairable => 2
      | .dropped .headFault => 3) := by
    obtain _ | _ | cause := x.condition
    · rfl
    · rfl
    · cases cause <;> rfl
  rw [State.summaryFrame, returnFrame, hsum, be16_ofNat, hhigh, hlow, hcode, hcond]
  rfl

/-- Settles O33, by the summaries that find places and by the record of each. -/
theorem drainEndsInSummaries : Obligations.DrainEndsInSummaries := by
  unfold Obligations.DrainEndsInSummaries
  refine ⟨fun s => ⟨rfl, fun h => ?idle, ?drain⟩, fun s => ⟨fun h => ?none, fun i hi hroom' =>
    ⟨fun hnot => ?next, fun hlast => ?last⟩⟩, ?frame⟩
  case idle =>
    obtain ⟨e, -⟩ | ⟨-, hd, hc⟩ := settleDrain_cases s.begin
    · exact congrArg _ e
    · exact absurd hc (h.resolve_left (Bool.eq_false_iff.not.2 (not_not.2 hd)))
  case drain =>
    intro hd hc hlen n
    obtain ⟨-, hnot⟩ | ⟨e, -⟩ := settleDrain_cases s.begin
    · exact absurd hc (hnot.resolve_left (Bool.eq_false_iff.not.2 (not_not.2 hd)))
    · have hclosing : s.pass.state = .closing := by
        simp only [State.draining, Bool.and_eq_true, beq_iff_eq] at hd
        exact hd.1
      let v : State := { s.begin with pass := { s.pass with summary := some 0 } }
      obtain ⟨hprefix, hmore, hall⟩ := enqueueSummaries_spec 16 (s := v) (k := 0) rfl rfl hclosing hlen
      have honly : ReportsOnly s.begin s.begin.settleDrain := settleDrain_only s.begin
      have hreports : s.begin.settleDrain = v.enqueueSummaries 16 := e
      refine ⟨_, rfl, ?_, honly.number, honly.sites, honly.link, honly.cal, honly.tables, ?_, ?_, ?_⟩
      · have htake := take_of_prefix hprefix
        have hcount : (v.ret.reports ++ ((allSites.drop (0 : SiteNo).val).take n).map v.summaryFrame).length =
            s.ret.reports.length + n := by
          have h16 : (allSites.drop (0 : SiteNo).val).length = 16 := rfl
          rw [List.length_append, List.length_map, List.length_take, h16]
          show s.ret.reports.length + min n 16 = _
          omega
        rw [hreports, ← hcount]
        exact htake
      · rw [honly.ret]; rfl
      · rw [hreports]; intro h
        obtain ⟨hstate, hsummary, hnotice, hlength⟩ := hmore h
        refine ⟨hstate, hsummary.trans ?_, hnotice, hlength⟩
        exact congrArg (fun x => some (Fin.ofNat 16 x)) (Nat.zero_add n)
      · rw [hreports]; exact hall
  case none =>
    exact congrArg _ (enqueueSummary_of_settled (s := s.begin) h)
  case next =>
    show Host.Outcome.next s.begin.enqueueSummary = _
    obtain ⟨-, hstays⟩ | ⟨k, hk, -, ⟨hlast, -⟩ | ⟨-, e⟩⟩ := enqueueSummary_cases s.begin
    · exact absurd hstays (by simp [hi, show s.begin.reportRoom = true from hroom'])
    · exact absurd ((Option.some.inj (hi.symm.trans hk)).trans hlast) hnot
    · obtain rfl := Option.some.inj (hi.symm.trans hk)
      exact congrArg _ e
  case last =>
    have hentered : s.begin.enqueueSummary = (s.begin.enqueueReport (s.summaryFrame i)).passClosed := by
      obtain ⟨-, hstays⟩ | ⟨k, hk, -, ⟨-, e⟩ | ⟨hnot, -⟩⟩ := enqueueSummary_cases s.begin
      · exact absurd hstays (by simp [hi, show s.begin.reportRoom = true from hroom'])
      · obtain rfl := Option.some.inj (hi.symm.trans hk)
        exact e
      · exact absurd ((Option.some.inj (hi.symm.trans hk)).symm.trans hlast) hnot
    obtain ⟨hpass, hflag⟩ := passClosed_pass (s.begin.enqueueReport (s.summaryFrame i))
    have honly := (enqueueReport_only s.begin (s.summaryFrame i)).trans (passClosed_only _)
    have htake := take_of_prefix (passClosed_joins (s.begin.enqueueReport (s.summaryFrame i)))
    have hcount : (s.begin.enqueueReport (s.summaryFrame i)).ret.reports.length = s.ret.reports.length + 1 := by
      rw [State.enqueueReport_ret]; simp
    refine ⟨(s.begin.enqueueReport (s.summaryFrame i)).passClosed, congrArg Host.Outcome.next hentered, hpass, hflag, honly.sites, honly.link, honly.cal, honly.tables, ?_, ?_⟩
    · rw [honly.ret]; rfl
    · rw [← hcount]; exact htake
  case frame => exact summaryFrame_bytes

end Sys2Proof.Machine
end

section
/-! PROOFS. Repair analysis is right (chapter 4): a record whose fails some choice of spares covers stays repairable with only forced repairs committed, and the must repairs and the sparse list account for every fail. -/

namespace Sys2Proof.Machine

/-- A trial that a choice of rows and columns still serves: the choice has no more rows and columns left than the trial has spares, contains the must repairs, and covers what is listed. -/
structure Record.Served (rows : Finset Half) (cols : Finset Col) (r : Record) : Prop where
  rowBudget : rows.card ≤ r.rr + r.mustRows.length
  colBudget : cols.card ≤ r.rc + r.mustCols.length
  rowsForced : ∀ x ∈ r.mustRows, x ∈ rows
  colsForced : ∀ y ∈ r.mustCols, y ∈ cols
  mustRows_nodup : r.mustRows.Nodup
  mustCols_nodup : r.mustCols.Nodup
  sparse_nodup : r.sparse.Nodup
  uncovered : ∀ p ∈ r.sparse, p.1 ∉ r.mustRows ∧ p.2 ∉ r.mustCols
  covers : Covers rows cols r.sparse

/-- What is left of a choice once the members of a list without repeats are gone. -/
theorem card_sdiff_toFinset {α : Type} [DecidableEq α] {s : Finset α} {l : List α} (h : ∀ x ∈ l, x ∈ s) (hl : l.Nodup) :
    (s \ l.toFinset).card + l.length = s.card := by
  rw [← List.toFinset_card_of_nodup hl]
  exact Finset.card_sdiff_add_card_eq_card fun x hx => h x (List.mem_toFinset.1 hx)

/-- A list without repeats whose members are in a choice and in no must list is no longer than what is left of the choice. -/
theorem length_le_of_left {α : Type} [DecidableEq α] {s : Finset α} {l m : List α} {n : Nat} (hm : m.Nodup)
    (hleft : ∀ x ∈ m, x ∈ s ∧ x ∉ l) (hforced : ∀ x ∈ l, x ∈ s) (hl : l.Nodup) (hn : s.card ≤ n + l.length) :
    m.length ≤ n := by
  have hsub : m.toFinset ⊆ s \ l.toFinset := fun x hx => by
    obtain ⟨hs, hnot⟩ := hleft x (List.mem_toFinset.1 hx)
    exact Finset.mem_sdiff.2 ⟨hs, fun hx => hnot (List.mem_toFinset.1 hx)⟩
  have hcard := Finset.card_le_card hsub
  rw [List.toFinset_card_of_nodup hm] at hcard
  have := card_sdiff_toFinset hforced hl
  omega

variable {rows : Finset Half} {cols : Finset Col} {r t : Record}

/-- A row with more listed pairs than spare columns left is in every choice that serves (R72, R74). -/
theorem Record.Served.row_forced (h : r.Served rows cols) {x : Half} (hx : r.rc < r.rowCount x) : x ∈ rows := by
  by_contra hnot
  rw [Record.rowCount, List.countP_eq_length_filter, ← List.length_map (f := Prod.snd)] at hx
  refine absurd (length_le_of_left (s := cols) (l := r.mustCols) ?_ ?_ h.colsForced h.mustCols_nodup h.colBudget) (Nat.not_le.2 hx)
  · refine (h.sparse_nodup.filter _).map_on fun p hp q hq hpq => Prod.ext ?_ hpq
    rw [eq_of_beq (List.mem_filter.1 hp).2, eq_of_beq (List.mem_filter.1 hq).2]
  · simp only [List.mem_map, List.mem_filter, beq_iff_eq]
    rintro _ ⟨p, ⟨hp, rfl⟩, rfl⟩
    exact ⟨(h.covers p hp).resolve_left hnot, (h.uncovered p hp).2⟩

/-- A column with more listed pairs than spare rows left is in every choice that serves (R73, R74). -/
theorem Record.Served.col_forced (h : r.Served rows cols) {y : Col} (hy : r.rr < r.colCount y) : y ∈ cols := by
  by_contra hnot
  rw [Record.colCount, List.countP_eq_length_filter, ← List.length_map (f := Prod.fst)] at hy
  refine absurd (length_le_of_left (s := rows) (l := r.mustRows) ?_ ?_ h.rowsForced h.mustRows_nodup h.rowBudget) (Nat.not_le.2 hy)
  · refine (h.sparse_nodup.filter _).map_on fun p hp q hq hpq => Prod.ext hpq ?_
    rw [eq_of_beq (List.mem_filter.1 hp).2, eq_of_beq (List.mem_filter.1 hq).2]
  · simp only [List.mem_map, List.mem_filter, beq_iff_eq]
    rintro _ ⟨p, ⟨hp, rfl⟩, rfl⟩
    exact ⟨(h.covers p hp).resolve_right hnot, (h.uncovered p hp).1⟩

/-- A row of the choice that is in no must list finds a spare row, and its repair leaves the trial served (R71). -/
theorem Record.Served.commitRow (h : r.Served rows cols) {x : Half} (hx : x ∈ rows) (hnew : x ∉ r.mustRows) :
    ∃ t, r.commitRow x = some t ∧ t.Served rows cols := by
  have hspare : 1 ≤ r.rr := length_le_of_left (m := [x]) (List.nodup_singleton x)
    (fun y hy => List.mem_singleton.1 hy ▸ ⟨hx, hnew⟩) h.rowsForced h.mustRows_nodup h.rowBudget
  refine ⟨_, Record.commitRow_eq_some.2 ⟨by omega, rfl⟩, ?_, h.colBudget, ?_, h.colsForced, ?_, h.mustCols_nodup,
    h.sparse_nodup.filter _, ?_, ?_⟩
  · have := h.rowBudget
    simp only [List.length_append, List.length_singleton]
    omega
  · intro y hy
    rw [List.mem_append, List.mem_singleton] at hy
    exact hy.elim (h.rowsForced y) fun e => e ▸ hx
  · exact h.mustRows_nodup.append (List.nodup_singleton x) (List.disjoint_singleton.2 hnew)
  · intro p hp
    obtain ⟨hmem, hne⟩ := List.mem_filter.1 hp
    obtain ⟨hr, hc⟩ := h.uncovered p hmem
    exact ⟨by simpa [hr] using hne, hc⟩
  · exact fun p hp => h.covers p (List.mem_of_mem_filter hp)

/-- A column of the choice that is in no must list finds a spare column, and its repair leaves the trial served (R71). -/
theorem Record.Served.commitCol (h : r.Served rows cols) {y : Col} (hy : y ∈ cols) (hnew : y ∉ r.mustCols) :
    ∃ t, r.commitCol y = some t ∧ t.Served rows cols := by
  have hspare : 1 ≤ r.rc := length_le_of_left (m := [y]) (List.nodup_singleton y)
    (fun x hx => List.mem_singleton.1 hx ▸ ⟨hy, hnew⟩) h.colsForced h.mustCols_nodup h.colBudget
  refine ⟨_, Record.commitCol_eq_some.2 ⟨by omega, rfl⟩, h.rowBudget, ?_, h.rowsForced, ?_, h.mustRows_nodup, ?_,
    h.sparse_nodup.filter _, ?_, ?_⟩
  · have := h.colBudget
    simp only [List.length_append, List.length_singleton]
    omega
  · intro x hx
    rw [List.mem_append, List.mem_singleton] at hx
    exact hx.elim (h.colsForced x) fun e => e ▸ hy
  · exact h.mustCols_nodup.append (List.nodup_singleton y) (List.disjoint_singleton.2 hnew)
  · intro p hp
    obtain ⟨hmem, hne⟩ := List.mem_filter.1 hp
    obtain ⟨hr, hc⟩ := h.uncovered p hmem
    exact ⟨hr, by simpa [hc] using hne⟩
  · exact fun p hp => h.covers p (List.mem_of_mem_filter hp)

/-- The cascade of a served trial proves nothing unrepairable and leaves it served (R74). -/
theorem Record.Served.cascade (n : Nat) (h : r.Served rows cols) : ∃ t, r.cascade n = some t ∧ t.Served rows cols := by
  induction n generalizing r with
  | zero => exact ⟨r, rfl, h⟩
  | succ n ih =>
    unfold Record.cascade
    split
    next p hp =>
      have hforced := h.row_forced (by simpa using List.find?_some hp)
      obtain ⟨u, hu, hserved⟩ := h.commitRow hforced (h.uncovered p (List.mem_of_find?_eq_some hp)).1
      rw [hu]
      exact ih hserved
    next =>
      split
      next p hp =>
        have hforced := h.col_forced (by simpa using List.find?_some hp)
        obtain ⟨u, hu, hserved⟩ := h.commitCol hforced (h.uncovered p (List.mem_of_find?_eq_some hp)).2
        rw [hu]
        exact ih hserved
      next => exact ⟨r, rfl, h⟩

/-- A served trial stays served when an uncovered fail of the choice is listed. -/
theorem Record.Served.list (h : r.Served rows cols) {p : Half × Col} (hcov : p.1 ∉ r.mustRows ∧ p.2 ∉ r.mustCols)
    (hnew : p ∉ r.sparse) (hp : p.1 ∈ rows ∨ p.2 ∈ cols) :
    Record.Served rows cols { r with sparse := r.sparse ++ [p] } := by
  refine { h with
    sparse_nodup := h.sparse_nodup.append (List.nodup_singleton p) (List.disjoint_singleton.2 hnew)
    uncovered := fun q hq => ?_
    covers := fun q hq => ?_ }
  all_goals
    rw [List.mem_append, List.mem_singleton] at hq
    obtain hq | rfl := hq
  · exact h.uncovered q hq
  · exact hcov
  · exact h.covers q hq
  · exact hp

/-- The trial of a fail of the choice proves nothing unrepairable, leaves the trial served and forces nothing when it ends (R72 to R74). -/
theorem Record.Served.trial (h : r.Served rows cols) (hu : r.Unforced) {p : Half × Col} (hi : r.ignores p = false)
    (hp : p.1 ∈ rows ∨ p.2 ∈ cols) : ∃ t, r.trial p = some t ∧ t.Served rows cols ∧ t.Unforced := by
  obtain ⟨-, hcov, hnew⟩ := Record.ignores_eq_false.1 hi
  have hlisted := h.list hcov hnew hp
  unfold Record.trial
  split
  next hrow =>
    have hforced := hlisted.row_forced (x := p.1) (by rw [Record.rowCount_list, if_pos rfl]; exact hrow)
    obtain ⟨u, hc, hserved⟩ := h.commitRow hforced hcov.1
    obtain ⟨t, ht, htserved⟩ := hserved.cascade (u.rr + u.rc + 1)
    rw [hc]
    exact ⟨t, ht, htserved, Record.settle_unforced ht⟩
  next hrow =>
    split
    next hcol =>
      have hforced := hlisted.col_forced (y := p.2) (by rw [Record.colCount_list, if_pos rfl]; exact hcol)
      obtain ⟨u, hc, hserved⟩ := h.commitCol hforced hcov.2
      obtain ⟨t, ht, htserved⟩ := hserved.cascade (u.rr + u.rc + 1)
      rw [hc]
      exact ⟨t, ht, htserved, Record.settle_unforced ht⟩
    next hcol => exact ⟨_, rfl, hlisted, hu.list (by omega) (by omega)⟩

/-- A served trial with nothing forced is within the bound: each row left takes at most rc listed pairs and each column left at most rr (R75). -/
theorem Record.Served.inBound (h : r.Served rows cols) (hu : r.Unforced) : r.inBound = true := by
  have hrows (x : Half) : r.rowCount x ≤ r.rc := by
    by_contra hgt
    obtain ⟨p, hp, hx⟩ := List.countP_pos_iff.1 (Nat.zero_lt_of_lt (Nat.not_le.1 hgt))
    exact hgt (eq_of_beq hx ▸ (hu p hp).1)
  have hcols (y : Col) : r.colCount y ≤ r.rr := by
    by_contra hgt
    obtain ⟨p, hp, hy⟩ := List.countP_pos_iff.1 (Nat.zero_lt_of_lt (Nat.not_le.1 hgt))
    exact hgt (eq_of_beq hy ▸ (hu p hp).2)
  have hsub : r.sparse.toFinset ⊆
      ((rows \ r.mustRows.toFinset).biUnion fun x => (r.sparse.filter (·.1 == x)).toFinset) ∪
        (cols \ r.mustCols.toFinset).biUnion fun y => (r.sparse.filter (·.2 == y)).toFinset := by
    intro p hp
    have hp := List.mem_toFinset.1 hp
    obtain ⟨hr, hc⟩ := h.uncovered p hp
    have hpair := h.covers p hp
    simp only [Finset.mem_union, Finset.mem_biUnion, Finset.mem_sdiff, List.mem_toFinset, List.mem_filter, beq_iff_eq]
    exact hpair.imp (fun hx => ⟨p.1, ⟨hx, hr⟩, hp, rfl⟩) fun hy => ⟨p.2, ⟨hy, hc⟩, hp, rfl⟩
  have hleft := card_sdiff_toFinset h.rowsForced h.mustRows_nodup
  have hright := card_sdiff_toFinset h.colsForced h.mustCols_nodup
  have hrowBudget := h.rowBudget
  have hcolBudget := h.colBudget
  rw [Record.inBound_iff]
  calc r.sparse.length = r.sparse.toFinset.card := (List.toFinset_card_of_nodup h.sparse_nodup).symm
    _ ≤ _ := (Finset.card_le_card hsub).trans (Finset.card_union_le _ _)
    _ ≤ (rows \ r.mustRows.toFinset).card * r.rc + (cols \ r.mustCols.toFinset).card * r.rr :=
      Nat.add_le_add
        (Finset.card_biUnion_le_card_mul _ _ _ fun x _ => (List.toFinset_card_le _).trans
          (List.countP_eq_length_filter.symm.trans_le (hrows x)))
        (Finset.card_biUnion_le_card_mul _ _ _ fun y _ => (List.toFinset_card_le _).trans
          (List.countP_eq_length_filter.symm.trans_le (hcols y)))
    _ ≤ r.rr * r.rc + r.rc * r.rr :=
      Nat.add_le_add (Nat.mul_le_mul_right _ (by omega)) (Nat.mul_le_mul_right _ (by omega))
    _ = 2 * r.rr * r.rc := by ring

/-- The record of a region after one fail more. -/
theorem Record.after_append (b : Budget) (fails : List (Half × Col)) (p : Half × Col) :
    Record.after b (fails ++ [p]) = (Record.after b fails).take p := by
  simp [Record.after]

/-- A record whose fails a choice of spares covers is served by the choice, with nothing forced and not UNREPAIRABLE (R70 to R76). -/
theorem Record.after_served {b : Budget} (hr : rows.card ≤ b.sr) (hc : cols.card ≤ b.sc) (fails : List (Half × Col))
    (h : Covers rows cols fails) :
    (Record.after b fails).Served rows cols ∧ (Record.after b fails).Unforced ∧
      (Record.after b fails).state ≠ .unrepairable := by
  induction fails using List.reverseRecOn with
  | nil =>
    exact ⟨⟨hr, hc, nofun, nofun, .nil, .nil, .nil, nofun, nofun⟩, nofun, nofun⟩
  | append_singleton fails p ih =>
    obtain ⟨hserved, hunforced, hstate⟩ := ih fun q hq => h q (List.mem_append_left _ hq)
    have hp := h p (List.mem_append_right _ (List.mem_singleton_self p))
    rw [Record.after_append]
    obtain ⟨-, e⟩ | ⟨hi, t, ht, -, e⟩ | ⟨hi, hbad, -⟩ := (Record.after b fails).take_cases p
    · rw [e]; exact ⟨hserved, hunforced, hstate⟩
    · obtain ⟨u, hu, huserved, huforced⟩ := hserved.trial hunforced hi hp
      obtain rfl := Option.some.inj (hu.symm.trans ht)
      rw [e]
      exact ⟨{ huserved with }, huforced, nofun⟩
    · obtain ⟨u, hu, huserved, huforced⟩ := hserved.trial hunforced hi hp
      exact absurd (huserved.inBound huforced) (Bool.eq_false_iff.1 (hbad u hu))

/-- Settles O28, by the choice that serves the record after every fail. -/
theorem unrepairableIsProvedAndMustRepairsAreForced : Obligations.UnrepairableIsProvedAndMustRepairsAreForced := by
  unfold Obligations.UnrepairableIsProvedAndMustRepairsAreForced
  intro b fails rows cols hr hc h r
  obtain ⟨hserved, -, hstate⟩ := Record.after_served hr hc fails h
  exact ⟨hstate, hserved.rowsForced, hserved.colsForced⟩

/-- A trial accounts for fails: each is covered by a must repair or listed, and nothing else is listed. -/
structure Record.Accounts (fails : List (Half × Col)) (r : Record) : Prop where
  accounted : ∀ p ∈ fails, p.1 ∈ r.mustRows ∨ p.2 ∈ r.mustCols ∨ p ∈ r.sparse
  listed : ∀ p ∈ r.sparse, p ∈ fails

variable {fails : List (Half × Col)}

/-- A fail whose row is repaired is covered; the others are accounted for as before (R71). -/
theorem Record.Accounts.commitRow {more : List (Half × Col)} (h : r.Accounts fails) {x : Half} (hu : r.commitRow x = some t)
    (hmore : ∀ p ∈ more, p.1 = x) : t.Accounts (fails ++ more) := by
  obtain ⟨-, rfl⟩ := Record.commitRow_eq_some.1 hu
  refine ⟨fun p hp => ?_, fun p hp => List.mem_append_left _ (h.listed p (List.mem_of_mem_filter hp))⟩
  by_cases hx : p.1 = x
  · exact .inl (by simp [hx])
  · obtain hr | hc | hs := h.accounted p ((List.mem_append.1 hp).resolve_right fun hm => hx (hmore p hm))
    · exact .inl (List.mem_append_left _ hr)
    · exact .inr (.inl hc)
    · exact .inr (.inr (List.mem_filter.2 ⟨hs, by simpa using hx⟩))

/-- A fail whose column is repaired is covered; the others are accounted for as before (R71). -/
theorem Record.Accounts.commitCol {more : List (Half × Col)} (h : r.Accounts fails) {y : Col} (hu : r.commitCol y = some t)
    (hmore : ∀ p ∈ more, p.2 = y) : t.Accounts (fails ++ more) := by
  obtain ⟨-, rfl⟩ := Record.commitCol_eq_some.1 hu
  refine ⟨fun p hp => ?_, fun p hp => List.mem_append_left _ (h.listed p (List.mem_of_mem_filter hp))⟩
  by_cases hy : p.2 = y
  · exact .inr (.inl (by simp [hy]))
  · obtain hr | hc | hs := h.accounted p ((List.mem_append.1 hp).resolve_right fun hm => hy (hmore p hm))
    · exact .inl hr
    · exact .inr (.inl (List.mem_append_left _ hc))
    · exact .inr (.inr (List.mem_filter.2 ⟨hs, by simpa using hy⟩))

/-- The settling of a trial accounts for the same fails (R74). -/
theorem Record.Accounts.settle (h : r.Accounts fails) (ht : r.settle = some t) : t.Accounts fails :=
  Record.cascade_keeps (P := Record.Accounts fails)
    (fun _ _ _ hr _ hu => by simpa using hr.commitRow hu (more := []) nofun)
    (fun _ _ _ hr _ hu => by simpa using hr.commitCol hu (more := []) nofun) _ h ht

/-- A trial accounts for the fail it takes too (R72, R73). -/
theorem Record.Accounts.trial (h : r.Accounts fails) {p : Half × Col} (ht : r.trial p = some t) : t.Accounts (fails ++ [p]) := by
  obtain ⟨-, u, hc, hs⟩ | ⟨-, u, hc, hs⟩ | ⟨-, -, rfl⟩ := Record.trial_cases ht
  · exact (h.commitRow hc fun q hq => by rw [List.mem_singleton.1 hq]).settle hs
  · exact (h.commitCol hc fun q hq => by rw [List.mem_singleton.1 hq]).settle hs
  · refine ⟨fun q hq => ?_, fun q hq => ?_⟩
    · obtain hq | hq := List.mem_append.1 hq
      · exact (h.accounted q hq).imp_right (.imp_right (List.mem_append_left _))
      · exact .inr (.inr (List.mem_append_right _ hq))
    · exact List.mem_append.2 ((List.mem_append.1 hq).imp_left (h.listed q))

/-- A record that is not UNREPAIRABLE accounts for every fail it took, and is CLEAN exactly when it took none (R67, R76). -/
theorem Record.after_accounts (b : Budget) (fails : List (Half × Col)) (h : (Record.after b fails).state ≠ .unrepairable) :
    (Record.after b fails).Accounts fails ∧ ((Record.after b fails).state = .clean ↔ fails = []) := by
  induction fails using List.reverseRecOn with
  | nil => exact ⟨⟨nofun, nofun⟩, by simp [Record.after, Record.load]⟩
  | append_singleton fails p ih =>
    have hbefore : (Record.after b fails).state ≠ .unrepairable := fun hbad =>
      h (by rw [Record.after_append, Record.take_of_unrepairable p hbad, hbad])
    obtain ⟨haccounts, hclean⟩ := ih hbefore
    rw [Record.after_append] at h ⊢
    obtain ⟨hi, e⟩ | ⟨-, t, ht, -, e⟩ | ⟨-, -, e⟩ := (Record.after b fails).take_cases p
    · have hin : p.1 ∈ (Record.after b fails).mustRows ∨ p.2 ∈ (Record.after b fails).mustCols ∨
          p ∈ (Record.after b fails).sparse := by
        by_contra hout
        push Not at hout
        exact absurd hi (Bool.eq_false_iff.1 (Record.ignores_eq_false.2 ⟨hbefore, ⟨hout.1, hout.2.1⟩, hout.2.2⟩))
      rw [e]
      refine ⟨⟨fun q hq => ?_, fun q hq => List.mem_append_left _ (haccounts.listed q hq)⟩, fun hc => ?_, fun hn => ?_⟩
      · obtain hq | hq := List.mem_append.1 hq
        · exact haccounts.accounted q hq
        · rw [List.mem_singleton.1 hq]; exact hin
      · rw [hclean.1 hc] at hin
        simp [Record.after, Record.load] at hin
      · simp at hn
    · rw [e]
      obtain ⟨haccounted, hlisted⟩ := haccounts.trial ht
      exact ⟨⟨haccounted, hlisted⟩, by simp⟩
    · exact absurd (by rw [e]) h

/-- Settles O29, by the account that the record keeps of its fails. -/
theorem recordsCoverOrListEveryFail : Obligations.RecordsCoverOrListEveryFail := by
  unfold Obligations.RecordsCoverOrListEveryFail
  intro b fails r hstate
  obtain ⟨⟨haccounted, hlisted⟩, hclean⟩ := Record.after_accounts b fails hstate
  refine ⟨haccounted, hlisted, hclean, fun rows cols hcovers p hp => ?_⟩
  simp only [Finset.mem_union, List.mem_toFinset]
  obtain hr | hc | hs := haccounted p hp
  · exact .inl (.inr hr)
  · exact .inr (.inr hc)
  · exact (hcovers p hs).imp .inl .inl

end Sys2Proof.Machine
end

section
/-! PROOFS. Encodings agree: lane words by their fields and parity (R26, R195, section 10.4), downstream frames and their rows (R131, R193, section 10.2). -/

namespace Sys2Proof.Machine

/-- The number of ones of a word with one bit more in front is odd when one of the two is and not the other (R195). -/
theorem oddOnes_append {n : Nat} (b : BitVec 1) (x : BitVec n) : oddOnes (b ++ x) = Bool.xor (oddOnes x) (b.getLsbD 0) := by
  have hlow : (List.range n).foldl (fun p i => Bool.xor p ((b ++ x).getLsbD i)) false = oddOnes x :=
    List.foldl_ext _ _ _ fun p i hi => by rw [BitVec.getLsbD_append, if_pos (List.mem_range.1 hi)]
  have hrange : List.range (1 + n) = List.range n ++ [n] := by rw [Nat.add_comm, List.range_succ]
  show (List.range (1 + n)).foldl (fun p i => Bool.xor p ((b ++ x).getLsbD i)) false = _
  rw [hrange, List.foldl_append, hlow]
  simp only [List.foldl_cons, List.foldl_nil, BitVec.getLsbD_append, lt_irrefl, if_false, Nat.sub_self]

/-- A parity bit that makes the number of ones odd (R195). -/
theorem oddOnes_parity {n : Nat} (x : BitVec n) : oddOnes ((if oddOnes x then 0#1 else 1#1) ++ x) = true := by
  rw [oddOnes_append]
  cases oddOnes x <;> rfl

/-- Two words made of two fields each are equal exactly when the fields are. -/
theorem append_eq_append {v w : Nat} {a a' : BitVec v} {b b' : BitVec w} (h : a ++ b = a' ++ b') : a = a' ∧ b = b' := by
  have hleft := congrArg (fun x : BitVec (v + w) => x.extractLsb' w v) h
  have hright := congrArg (fun x : BitVec (v + w) => x.extractLsb' 0 w) h
  simp only [BitVec.extractLsb'_append_eq_left, BitVec.extractLsb'_append_eq_right] at hleft hright
  exact ⟨hleft, hright⟩

/-- A return word decodes to the row it was made for (section 10.4). -/
theorem decodeReturnWord_word (r : ReturnWord) : decodeReturnWord r.word = some r := by
  have hodd : oddOnes r.word = true := oddOnes_parity r.payload
  have hfield (start len : Nat) (h : start + len ≤ 35) : r.word.extractLsb' start len = r.payload.extractLsb' start len :=
    BitVec.extractLsb'_append_eq_of_add_le h
  rw [decodeReturnWord, if_pos hodd, hfield 0 3 (by decide), hfield 3 16 (by decide), hfield 19 16 (by decide),
    hfield 3 8 (by decide)]
  cases r with
  | idle | holdRequest | holdRelease => rfl
  | readData tag data =>
    have hkind : (ReturnWord.readData tag data).payload.extractLsb' 0 3 = 1 :=
      BitVec.extractLsb'_append_eq_right (a := data ++ tag) (b := 1#3)
    have htag : (ReturnWord.readData tag data).payload.extractLsb' 3 16 = tag :=
      (BitVec.extractLsb'_append_eq_of_le (xhi := data ++ tag) (xlo := 1#3) (by decide)).trans
        BitVec.extractLsb'_append_eq_right
    have hdata : (ReturnWord.readData tag data).payload.extractLsb' 19 16 = data :=
      (BitVec.extractLsb'_append_eq_of_le (xhi := data ++ tag) (xlo := 1#3) (by decide)).trans
        BitVec.extractLsb'_append_eq_left
    rw [hkind, htag, hdata]
    rfl
  | status bits =>
    have hkind : (ReturnWord.status bits).payload.extractLsb' 0 3 = 2 :=
      BitVec.extractLsb'_append_eq_right (a := 0#24 ++ bits) (b := 2#3)
    have hbits : (ReturnWord.status bits).payload.extractLsb' 3 8 = bits :=
      (BitVec.extractLsb'_append_eq_of_le (xhi := 0#24 ++ bits) (xlo := 2#3) (by decide)).trans
        BitVec.extractLsb'_append_eq_right
    rw [hkind, hbits]
    rfl

/-- The row a return word is (R26, section 10.4). -/
def ReturnWord.row (i : SiteNo) : ReturnWord → Instr
  | .idle => .idleWord i
  | .readData tag data => .readDataWord i tag data
  | .status bits => .statusWord i bits
  | .holdRequest => .holdRequestWord i
  | .holdRelease => .holdReleaseWord i

/-- A return word's row is decoded from it (section 10.4). -/
theorem decodeWord_word (i : SiteNo) (r : ReturnWord) (other : BitVec 36) : decodeWord i r.word other = r.row i := by
  have hword := decodeReturnWord_word r
  unfold decodeWord
  generalize decodeReturnWord r.word = decoded at hword ⊢
  subst hword
  cases r <;> rfl

/-- The kind code of a site command (section 10.4). -/
def SiteCommand.kindCode : SiteCommand → BitVec 3
  | .nop => 0
  | .write .. => 1
  | .read .. => 2
  | .park => 3
  | .holdGrant => 4

/-- The kind of a site command is told by the low three bits of its word (section 10.4). -/
theorem payload_kind (a : SiteCommand) : a.payload.extractLsb' 0 3 = a.kindCode := by
  cases a with
  | nop | park | holdGrant => rfl
  | write row col region data drive =>
    exact BitVec.extractLsb'_append_eq_right (a := 0#10 ++ drive ++ data ++ col ++ row) (b := 1#3)
  | read row col region drive strobe tag =>
    exact BitVec.extractLsb'_append_eq_right (a := strobe ++ drive ++ tag ++ col ++ row) (b := 2#3)

/-- A site command word has odd parity (R195). -/
theorem oddOnes_siteWord (a : SiteCommand) : oddOnes a.word = true := by
  rw [SiteCommand.word]
  exact oddOnes_parity a.payload

/-- A site command word names its payload (section 10.4). -/
theorem payload_of_word {a b : SiteCommand} (h : a.word = b.word) : a.payload = b.payload := by
  rw [SiteCommand.word, SiteCommand.word] at h
  exact (append_eq_append h).2

/-- A WRITE command's fields are told by its payload (section 10.4). -/
theorem writePayload_fields {row row' : Half} {col col' : Col} {g g' : RegionNo} {data data' : Half} {drive drive' : TimingCode}
    (h : (SiteCommand.write row col g data drive).payload = (SiteCommand.write row' col' g' data' drive').payload) :
    row = row' ∧ col = col' ∧ data = data' ∧ drive = drive' := by
  obtain ⟨h, -⟩ := append_eq_append (b := 1#3) (b' := 1#3) h
  obtain ⟨h, hrow⟩ := append_eq_append h
  obtain ⟨h, hcol⟩ := append_eq_append h
  obtain ⟨h, hdata⟩ := append_eq_append h
  exact ⟨hrow, hcol, hdata, (append_eq_append h).2⟩

/-- A READ command's fields are told by its payload (section 10.4). -/
theorem readPayload_fields {row row' : Half} {col col' : Col} {g g' : RegionNo} {drive drive' strobe strobe' : TimingCode}
    {tag tag' : Half}
    (h : (SiteCommand.read row col g drive strobe tag).payload = (SiteCommand.read row' col' g' drive' strobe' tag').payload) :
    row = row' ∧ col = col' ∧ drive = drive' ∧ strobe = strobe' ∧ tag = tag' := by
  obtain ⟨h, -⟩ := append_eq_append (b := 2#3) (b' := 2#3) h
  obtain ⟨h, hrow⟩ := append_eq_append h
  obtain ⟨h, hcol⟩ := append_eq_append h
  obtain ⟨h, htag⟩ := append_eq_append h
  obtain ⟨hstrobe, hdrive⟩ := append_eq_append h
  exact ⟨hrow, hcol, hdrive, hstrobe, htag⟩

/-- The row of a return word, by its parity and its kind (R26, section 10.4). -/
theorem decodeWord_cases (i : SiteNo) (w other : BitVec 36) {kind : Nat} (h : (w.extractLsb' 0 3).toNat = kind) :
    (oddOnes w = false ∨ 5 ≤ kind → decodeWord i w other = .laneWordError i { reference := w, other := other }) ∧
    (oddOnes w = true → kind = 0 → decodeWord i w other = .idleWord i) ∧
    (oddOnes w = true → kind = 1 → decodeWord i w other = .readDataWord i (w.extractLsb' 3 16) (w.extractLsb' 19 16)) ∧
    (oddOnes w = true → kind = 2 → decodeWord i w other = .statusWord i (w.extractLsb' 3 8)) ∧
    (oddOnes w = true → kind = 3 → decodeWord i w other = .holdRequestWord i) ∧
    (oddOnes w = true → kind = 4 → decodeWord i w other = .holdReleaseWord i) := by
  have hkind : kind < 8 := h ▸ (w.extractLsb' 0 3).isLt
  unfold decodeWord decodeReturnWord
  rw [h]
  refine ⟨fun hbad => ?_, fun hodd hk => ?_, fun hodd hk => ?_, fun hodd hk => ?_, fun hodd hk => ?_, fun hodd hk => ?_⟩
  · by_cases hodd : oddOnes w = true
    · have hk : 5 ≤ kind := hbad.resolve_left (by rw [hodd]; nofun)
      rw [if_pos hodd]
      interval_cases kind <;> rfl
    · rw [if_neg hodd]
  all_goals subst hk; simp only [if_pos hodd]

/-- Settles O53, by the parity bit and the fields of each word. -/
theorem laneWordsAgree : Obligations.LaneWordsAgree := by
  unfold Obligations.LaneWordsAgree
  refine ⟨fun i other tag data bits => ?_, fun i w other => ?_, fun a => ?_, fun a b h => ?_⟩
  · exact ⟨decodeWord_word i _ other, decodeWord_word i _ other, decodeWord_word i _ other, decodeWord_word i _ other,
      decodeWord_word i _ other⟩
  · exact decodeWord_cases i w other rfl
  · exact oddOnes_siteWord a
  · have hpayload := payload_of_word h
    have hkind : a.kindCode = b.kindCode := by rw [← payload_kind, hpayload, payload_kind]
    cases a with
    | write => cases b with
      | write => exact writePayload_fields hpayload
      | read | nop | park | holdGrant => simp [SiteCommand.kindCode] at hkind
    | read => cases b with
      | read => exact readPayload_fields hpayload
      | write | nop | park | holdGrant => simp [SiteCommand.kindCode] at hkind
    | nop => cases b with
      | nop => rfl
      | write | read | park | holdGrant => simp [SiteCommand.kindCode] at hkind
    | park => cases b with
      | park => rfl
      | write | read | nop | holdGrant => simp [SiteCommand.kindCode] at hkind
    | holdGrant => cases b with
      | holdGrant => rfl
      | write | read | nop | park => simp [SiteCommand.kindCode] at hkind

end Sys2Proof.Machine
end

section
/-! PROOFS. Downstream frames and their rows agree, row by row (R131, R193, sections 10.2, 10.5 and 10.6). -/

namespace Sys2Proof.Machine

/-- A CONTROL row that is a frame is the CONTROL frame of what it carries (section 10.2). -/
theorem encodeFrame_control {i : Instr} {c : Ctl} {code : Byte} {params : List Byte} {f : Frame}
    (h : controlOf i = some (c, code, params)) (hf : encodeFrame i = some f) : controlFrame c code params = f := by
  cases i <;> simp only [controlOf, reduceCtorEq, Option.some.injEq, Prod.mk.injEq] at h
  case controlFrameNotTaken => simp only [encodeFrame, reduceCtorEq] at hf
  all_goals
    obtain ⟨rfl, rfl, rfl⟩ := h
    exact Option.some.inj hf

/-- A well-formed CONTROL row carries 26 parameter bytes (section 10.2). -/
theorem params_length {i : Instr} {c : Ctl} {code : Byte} {params : List Byte}
    (h : controlOf i = some (c, code, params)) (hw : i.wellFormed = true) : params.length = 26 := by
  cases i <;> simp only [controlOf, reduceCtorEq, Option.some.injEq, Prod.mk.injEq] at h <;>
    obtain ⟨rfl, rfl, rfl⟩ := h <;>
    simp only [Instr.wellFormed, beq_iff_eq, Bool.and_eq_true] at hw <;>
    simp only [List.length_cons, List.length_append, be16_length, hw]

/-- A request that has no row of its own decodes to the row of unknown requests (R111, R180). -/
theorem decodeControl_unknown {c : Ctl} {code : Byte} {params : List Byte}
    (h : unknownRequestCode code (params.getD 0 0) = true) :
    decodeControl (c.addr :: code :: c.tag :: params) = .unknownRequest c code params := by
  have hcode : requestCodes.contains code.toNat = false ∨
      code = 0x40 ∧ ((params.getD 0 0).toNat = 0 ∨ 5 < (params.getD 0 0).toNat) := by
    simpa only [unknownRequestCode, Bool.or_eq_true, Bool.not_eq_true', Bool.and_eq_true, beq_iff_eq,
      decide_eq_true_eq] using h
  have hnot {n : Nat} (hn : requestCodes.contains n = true) (hne : n ≠ 0x40) (heq : code.toNat = n) : False := by
    obtain hcode | ⟨rfl, -⟩ := hcode
    · rw [heq, hn] at hcode
      exact Bool.noConfusion hcode
    · exact hne heq.symm
  unfold decodeControl
  dsimp only [List.getD_cons_zero, List.getD_cons_succ, List.drop_succ_cons, List.drop_zero]
  split
  case h_15 heq =>
    have hact : (params.getD 0 0).toNat = 0 ∨ 5 < (params.getD 0 0).toNat := by
      obtain hcode | ⟨-, hact⟩ := hcode
      · have hreq : code.toNat = 0x40 := heq
        rw [hreq] at hcode
        exact absurd hcode (by decide)
      · exact hact
    have hparam : ((c.addr :: code :: c.tag :: params).getD (3 + 0) 0).toNat = (params.getD 0 0).toNat := rfl
    split
    case h_6 => rfl
    all_goals
      rename_i hone
      rw [hparam] at hone
      omega
  case h_16 => rfl
  all_goals
    rename_i heq
    exact (hnot (by decide) (by decide) heq).elim

/-- A well-formed CONTROL row is decoded from the bytes it carries (sections 10.5, 10.6). -/
theorem decodeControl_carried {i : Instr} {c : Ctl} {code : Byte} {params : List Byte} {f : Frame}
    (h : controlOf i = some (c, code, params)) (hf : encodeFrame i = some f) (hw : i.wellFormed = true) :
    decodeControl (c.addr :: code :: c.tag :: params) = i := by
  cases i <;> simp only [controlOf, reduceCtorEq, Option.some.injEq, Prod.mk.injEq] at h
  case controlFrameNotTaken => simp only [encodeFrame, reduceCtorEq] at hf
  all_goals obtain ⟨rfl, rfl, rfl⟩ := h
  case unknownRequest c code params =>
    simp only [Instr.wellFormed, Bool.and_eq_true] at hw
    exact decodeControl_unknown hw.2
  case setReporting c enables mask rest =>
    exact congrArg (fun e => Instr.setReporting c e mask rest) (half_append enables)
  case setSites c enable drop rest =>
    exact congrArg₂ (fun e d => Instr.setSites c e d rest) (half_append enable) (half_append drop)
  all_goals rfl

/-- The row of a CONTROL frame's body is a frame (section 10.2). -/
theorem encodeFrame_decodeControl_isSome (b : List Byte) : (encodeFrame (decodeControl b)).isSome = true := by
  unfold decodeControl
  dsimp only
  split
  case h_15 => split <;> rfl
  all_goals rfl

/-- The row of a CONTROL frame's 29 body bytes is well-formed (sections 10.2, 10.5, 10.6). -/
theorem decodeControl_wellFormed {b : List Byte} (h : b.length = 29) : (decodeControl b).wellFormed = true := by
  have hdrop (n : Nat) : (b.drop n).length = 29 - n := by rw [List.length_drop, h]
  have hfirst : (b.drop 3).getD 0 0 = b.getD 3 0 := by rw [← getD_cons_drop (i := 3) (by omega), List.getD_cons_zero]
  unfold decodeControl
  dsimp only
  split
  case h_15 hcode =>
    split
    case h_6 h1 h2 h3 h4 h5 =>
      have hcode : b.getD 1 0 = 0x40 := BitVec.eq_of_toNat_eq hcode
      have hact : (b.getD 3 0).toNat = 0 ∨ 5 < (b.getD 3 0).toNat := by
        simp only [Nat.add_zero, imp_false] at h1 h2 h3 h4 h5
        omega
      simpa only [Instr.wellFormed, hdrop, unknownRequestCode, hfirst, hcode, Bool.and_eq_true, Bool.or_eq_true, beq_iff_eq,
        decide_eq_true_eq, true_and] using .inr hact
    all_goals simp only [Instr.wellFormed, hdrop, BEq.rfl]
  case h_16 =>
    have hunknown : requestCodes.contains (b.getD 1 0).toNat = false := by
      simp only [requestCodes, List.contains_cons, List.contains_nil, Bool.or_eq_false_iff, beq_eq_false_iff_ne]
      grind
    simp only [Instr.wellFormed, hdrop, unknownRequestCode, hunknown, Bool.not_false, Bool.true_or, BEq.rfl, Bool.and_self]
  all_goals simp only [Instr.wellFormed, hdrop, BEq.rfl]

/-- A frame made of a kind and 29 body bytes is whole. -/
theorem wholeFrame_mkFrame (kind : Byte) (bytes : List Byte) : wholeFrame (mkFrame kind bytes) = true := by
  rw [wholeFrame, mkFrame_body_length, BEq.rfl]

/-- The body of a good frame made of 29 bytes decides its row, kind by kind (R131). -/
theorem decodeFrame_control {c : Ctl} {code : Byte} {params : List Byte} (h : params.length = 26) :
    decodeFrame (controlFrame c code params) = decodeControl (c.addr :: code :: c.tag :: params) := by
  have hbody : (controlFrame c code params).body = c.addr :: code :: c.tag :: params :=
    mkFrame_body_of_length _ _ (by simp only [List.length_cons, h])
  rw [decodeFrame, controlFrame, if_pos (frameGood_mkFrame _ _), ← controlFrame, hbody]
  rfl

/-- A 32-bit field read back from its bytes (R193). -/
theorem long_be32 (x : Long) (rest : List Byte) : long (be32 x ++ rest) 0 = x := by
  show (x.extractLsb' 24 8 ++ x.extractLsb' 16 8) ++ (x.extractLsb' 8 8 ++ x.extractLsb' 0 8) = x
  rw [BitVec.extractLsb'_append_extractLsb'_eq_extractLsb' (by rfl), BitVec.extractLsb'_append_extractLsb'_eq_extractLsb' (by rfl),
    BitVec.extractLsb'_append_extractLsb'_eq_extractLsb' (by rfl)]
  exact BitVec.extractLsb'_eq_self

/-- A 16-bit field after a first byte (R193). -/
theorem half_cons (a : Byte) (l : List Byte) (i : Nat) : half (a :: l) (i + 1) = half l i := rfl

/-- A 32-bit field after a first byte (R193). -/
theorem long_cons (a : Byte) (l : List Byte) (i : Nat) : long (a :: l) (i + 1) = long l i := rfl

/-- A 16-bit field after a 32-bit field (R193). -/
theorem half_be32_append (x : Long) (l : List Byte) (i : Nat) : half (be32 x ++ l) (i + 4) = half l i := rfl

/-- A 16-bit field after a 16-bit field (R193). -/
theorem half_be16_append (x : Half) (l : List Byte) (i : Nat) : half (be16 x ++ l) (i + 2) = half l i := rfl

/-- A CYCLE frame's body is read field by field (section 10.2). -/
theorem decodeFrame_cycle (c : Cycle) (h : c.rest.length = 16) : decodeFrame (cycleFrameOf c) = .cycleFrame c := by
  have hlen : (c.op :: c.flags :: c.setByte ::
      (be32 c.address ++ be16 c.data ++ be16 c.mask ++ be16 c.number ++ c.rest)).length = 29 := by
    simp only [List.length_cons, List.length_append, be16_length, h]
    rfl
  rw [decodeFrame, cycleFrameOf, if_pos (frameGood_mkFrame _ _), mkFrame_body_of_length _ _ hlen]
  simp only [List.append_assoc, List.getD_cons_zero, List.getD_cons_succ, long_cons, half_cons, half_be32_append,
    half_be16_append, long_be32, half_be16]
  rfl

/-- A well-formed IDLE, ALIGN, CYCLE, EXERCISE or unknown-kind row is decoded from its frame (section 10.2). -/
theorem decodeFrame_kinds {i : Instr} {f : Frame} (hc : controlOf i = none) (hw : i.wellFormed = true)
    (hf : encodeFrame i = some f) : wholeFrame f = true ∧ decodeFrame f = i := by
  have hdecode {kind : Byte} {bytes : List Byte} (h : bytes.length = 29) :
      frameGood (mkFrame kind bytes) = true ∧ (mkFrame kind bytes).body = bytes :=
    ⟨frameGood_mkFrame kind bytes, mkFrame_body_of_length kind bytes h⟩
  cases i
  case idleFrame body =>
    obtain rfl := Option.some.inj hf
    obtain ⟨hgood, hbody⟩ := hdecode (kind := kindIdle) (beq_iff_eq.1 hw : body.length = 29)
    refine ⟨wholeFrame_mkFrame _ _, ?_⟩
    rw [decodeFrame, if_pos hgood, hbody]
    rfl
  case alignFrame k count rest =>
    obtain rfl := Option.some.inj hf
    obtain ⟨hgood, hbody⟩ := hdecode (kind := kindAlign) (bytes := k :: count :: rest)
      (by rw [List.length_cons, List.length_cons, beq_iff_eq.1 hw])
    refine ⟨wholeFrame_mkFrame _ _, ?_⟩
    rw [decodeFrame, alignFrameOf, if_pos hgood, hbody]
    rfl
  case cycleFrame c =>
    obtain rfl := Option.some.inj hf
    exact ⟨wholeFrame_mkFrame _ _, decodeFrame_cycle c (beq_iff_eq.1 hw)⟩
  case exerciseFrame seed sequence =>
    obtain rfl := Option.some.inj hf
    obtain ⟨hgood, hbody⟩ := hdecode (kind := kindExercise) (bytes := be16 seed ++ sequence)
      (by rw [List.length_append, be16_length, beq_iff_eq.1 hw])
    refine ⟨wholeFrame_mkFrame _ _, ?_⟩
    rw [decodeFrame, exerciseFrameOf, if_pos hgood, hbody]
    exact congrArg (fun x => Instr.exerciseFrame x sequence) (half_append seed)
  case unknownKindFrame kind body =>
    obtain rfl := Option.some.inj hf
    simp only [Instr.wellFormed, unknownKind, Bool.and_eq_true, decide_eq_true_eq, beq_iff_eq] at hw
    obtain ⟨hgood, hbody⟩ := hdecode (kind := kind) hw.2
    refine ⟨wholeFrame_mkFrame _ _, ?_⟩
    obtain ⟨hk, -⟩ | ⟨hk, -⟩ | ⟨hk, -⟩ | ⟨hk, -⟩ | ⟨hk, -⟩ | ⟨-, hrow, -⟩ := decodeFrame_cases hgood
    case inr.inr.inr.inr.inr => rw [hrow, hbody, mkFrame_kind]
    all_goals
      rw [mkFrame_kind] at hk
      omega
  case badFrame g =>
    obtain rfl := Option.some.inj hf
    simp only [Instr.wellFormed, Bool.and_eq_true, Bool.not_eq_true'] at hw
    exact ⟨hw.1, if_neg (by rw [hw.2]; exact Bool.false_ne_true)⟩
  all_goals simp only [controlOf, encodeFrame, reduceCtorEq] at hc hf

/-- Every whole frame's row is well-formed and is that frame (R131, R193). -/
theorem encodeFrame_decodeFrame {f : Frame} (hf : wholeFrame f = true) :
    (decodeFrame f).wellFormed = true ∧ encodeFrame (decodeFrame f) = some f := by
  have hlen : f.body.length = 29 := by simpa only [wholeFrame, beq_iff_eq] using hf
  have hbyte {i : Nat} (hi : i < 29) : f.body.getD i 0 :: f.body.drop (i + 1) = f.body.drop i := getD_cons_drop (by omega)
  cases hgood : frameGood f with
  | false =>
    have hrow : decodeFrame f = .badFrame f := if_neg (by rw [hgood]; exact Bool.false_ne_true)
    rw [hrow]
    exact ⟨by simp only [Instr.wellFormed, hf, hgood, Bool.not_false, Bool.and_self], rfl⟩
  | true =>
    have hframe {k : Byte} (hk : f.kind.toNat = k.toNat) : mkFrame k f.body = f := by
      rw [← BitVec.eq_of_toNat_eq hk, ← eq_mkFrame_of_good f hlen hgood]
    obtain ⟨hk, hrow, -⟩ | ⟨hk, hrow, -⟩ | ⟨hk, hrow, -⟩ | ⟨hk, hrow, -⟩ | ⟨hk, hrow, -⟩ | ⟨hk, hrow, -⟩ :=
      decodeFrame_cases hgood <;> rw [hrow]
    · exact ⟨beq_iff_eq.2 hlen, congrArg some (hframe hk)⟩
    · refine ⟨beq_iff_eq.2 (by rw [List.length_drop, hlen]), congrArg some ?_⟩
      rw [alignFrameOf, hbyte (i := 1) (by decide), hbyte (i := 0) (by decide)]
      exact hframe hk
    · exact ⟨beq_iff_eq.2 (by rw [List.length_drop, hlen]), congrArg some ((cycleFrameOf_fields hlen).trans (hframe hk))⟩
    · refine ⟨decodeControl_wellFormed hlen, ?_⟩
      obtain ⟨g, hg⟩ := Option.isSome_iff_exists.1 (encodeFrame_decodeControl_isSome f.body)
      have hcontrol := encodeFrame_control (controlOf_decodeControl hlen) hg
      rw [hg, ← hcontrol, controlFrame]
      dsimp only
      rw [hbyte (i := 2) (by decide), hbyte (i := 1) (by decide), hbyte (i := 0) (by decide)]
      exact congrArg some (hframe hk)
    · refine ⟨beq_iff_eq.2 (by rw [List.length_drop, hlen]), congrArg some ?_⟩
      rw [exerciseFrameOf, be16_half_append (i := 0) (by omega), List.drop_zero]
      exact hframe hk
    · refine ⟨?_, congrArg some (eq_mkFrame_of_good f hlen hgood).symm⟩
      simp only [Instr.wellFormed, unknownKind, hk, hlen, decide_true, BEq.rfl, Bool.and_self]

/-- Settles O52, by the CONTROL rows through what they carry and the other kinds one by one. -/
theorem framesAndRowsAgree : Obligations.FramesAndRowsAgree := by
  unfold Obligations.FramesAndRowsAgree
  refine ⟨fun i f hw hf => ?_, fun f hf => encodeFrame_decodeFrame hf⟩
  cases hc : controlOf i with
  | none => exact decodeFrame_kinds hc hw hf
  | some x =>
    obtain ⟨c, code, params⟩ := x
    obtain rfl := encodeFrame_control hc hf
    exact ⟨wholeFrame_mkFrame _ _, (decodeFrame_control (params_length hc hw)).trans (decodeControl_carried hc hf hw)⟩

end Sys2Proof.Machine
end

section
/-! PROOFS. What the operations on ports put on the command lanes, one rule per operation (R23 to R25), and the draws that the reports leave alone. -/

namespace Sys2Proof.Machine

/-- A step that puts commands on one site's lane, in order, and nothing else on the outputs. -/
def Sends (i : SiteNo) (given : List SiteCommand) (s t : State) : Prop :=
  t.out = { s.out with commands := s.out.commands ++ given.map fun c => (i, c) }

/-- The commands on a lane after more are put out. -/
theorem laneCommands_append {s t : State} {more : List (SiteNo × SiteCommand)} (h : t.out.commands = s.out.commands ++ more)
    (j : SiteNo) : t.laneCommands j = s.laneCommands j ++ (more.filter fun x => x.1 == j).map Prod.snd := by
  rw [State.laneCommands, h, List.filter_append, List.map_append]
  rfl

/-- The commands of a lane among those given to one site. -/
theorem lane_of_given (i j : SiteNo) (given : List SiteCommand) :
    ((given.map fun c => (i, c)).filter fun x => x.1 == j).map Prod.snd = if j = i then given else [] := by
  by_cases h : j = i
  · subst h
    simp [List.filter_map, Function.comp_def]
  · have hij : (i == j) = false := by simpa using fun e => h e.symm
    simp [List.filter_map, Function.comp_def, hij, h]

/-- The lane of a step that puts commands on one site's lane. -/
theorem Sends.lane {i : SiteNo} {given : List SiteCommand} {s t : State} (h : Sends i given s t) (j : SiteNo) :
    t.laneCommands j = s.laneCommands j ++ if j = i then given else [] := by
  rw [laneCommands_append (congrArg Output.commands h) j, lane_of_given]

/-- A step that puts nothing on the outputs. -/
theorem Sends.nothing {s t : State} (h : t.out = s.out) (i : SiteNo) : Sends i [] s t := by
  rw [Sends, h, List.map_nil, List.append_nil]

/-- The outputs after an operation at every site of a list, each putting on its own lane what its site calls for. -/
theorem foldl_sends {op : SiteNo → State → State} {given : SiteNo → Site → List SiteCommand} {keep : State → Prop}
    (hkeep : ∀ i t, keep t → keep (op i t)) (hgiven : ∀ i t, keep t → Sends i (given i (t.site i)) t (op i t))
    (hother : ∀ i t j, j ≠ i → (op i t).site j = t.site j) :
    ∀ (l : List SiteNo) (s : State), l.Nodup → keep s → (l.foldl (fun s i => op i s) s).out = { s.out with
      commands := s.out.commands ++ l.flatMap fun i => (given i (s.site i)).map fun c => (i, c) } := by
  intro l
  induction l with
  | nil => intro s _ _; simp
  | cons i l ih =>
    intro s hl hs
    have hnot : i ∉ l := (List.nodup_cons.1 hl).1
    have hsites : (l.flatMap fun k => (given k ((op i s).site k)).map fun c => (k, c)) =
        l.flatMap fun k => (given k (s.site k)).map fun c => (k, c) :=
      List.flatMap_congr fun k hk => by rw [hother i s k fun e => hnot (e ▸ hk)]
    rw [List.foldl_cons, ih (op i s) (List.nodup_cons.1 hl).2 (hkeep i s hs), hsites, hgiven i s hs, List.flatMap_cons,
      List.append_assoc]

/-- The outputs after an operation at every site, in site order. -/
theorem forSites_sends {op : SiteNo → State → State} {given : SiteNo → Site → List SiteCommand} {keep : State → Prop}
    (hkeep : ∀ i t, keep t → keep (op i t)) (hgiven : ∀ i t, keep t → Sends i (given i (t.site i)) t (op i t))
    (hother : ∀ i t j, j ≠ i → (op i t).site j = t.site j) {s : State} (hs : keep s) :
    (forSites op s).out = { s.out with
      commands := s.out.commands ++ allSites.flatMap fun i => (given i (s.site i)).map fun c => (i, c) } :=
  foldl_sends hkeep hgiven hother allSites s allSites_nodup hs

/-- The commands of one lane among those of all sites. -/
theorem lane_of_all (given : SiteNo → List SiteCommand) (j : SiteNo) :
    ((allSites.flatMap fun i => (given i).map fun c => (i, c)).filter fun x => x.1 == j).map Prod.snd = given j := by
  have hone (l : List SiteNo) (hl : l.Nodup) :
      ((l.flatMap fun i => (given i).map fun c => (i, c)).filter fun x => x.1 == j).map Prod.snd =
        if j ∈ l then given j else [] := by
    induction l with
    | nil => rfl
    | cons i l ih =>
      obtain ⟨hnot, hl⟩ := List.nodup_cons.1 hl
      rw [List.flatMap_cons, List.filter_append, List.map_append, lane_of_given, ih hl]
      by_cases hj : j = i
      · subst hj
        simp [hnot]
      · simp [hj]
  rw [hone allSites allSites_nodup, if_pos (mem_allSites j)]

/-- The lane of each site after an operation at every site, in site order. -/
theorem forSites_lane {op : SiteNo → State → State} {given : SiteNo → Site → List SiteCommand} {keep : State → Prop}
    (hkeep : ∀ i t, keep t → keep (op i t)) (hgiven : ∀ i t, keep t → Sends i (given i (t.site i)) t (op i t))
    (hother : ∀ i t j, j ≠ i → (op i t).site j = t.site j) {s : State} (hs : keep s) (j : SiteNo) :
    (forSites op s).laneCommands j = s.laneCommands j ++ given j (s.site j) := by
  rw [laneCommands_append (congrArg Output.commands (forSites_sends hkeep hgiven hother hs)) j,
    lane_of_all fun i => given i (s.site i)]

/-- What the report of an empty queue puts on the lane: HOLD_GRANT and PARK where a PENDING hold is granted (R25, R34). -/
def Site.emptyGrant (x : Site) : List SiteCommand := if x.hold = .pending ∧ x.queue = [] then [.holdGrant, .park] else []

/-- The report of an empty queue, in one equation (R34). -/
theorem grantIfEmpty_eq (s : State) (i : SiteNo) :
    s.grantIfEmpty i = { s.setSite i (s.site i).grantedIfEmpty with
      out := { s.out with commands := s.out.commands ++ (s.site i).emptyGrant.map fun c => (i, c) } } := by
  unfold State.grantIfEmpty Site.grantedIfEmpty Site.emptyGrant
  by_cases h : (s.site i).hold = .pending ∧ (s.site i).queue = []
  · simp only [if_pos h]
    exact grant_spec s i
  · simp only [if_neg h, State.setSite_site, List.map_nil, List.append_nil]

/-- What a grant puts on the lane (R25). -/
theorem grant_sends (s : State) (i : SiteNo) : Sends i [.holdGrant, .park] s (s.grant i) := by
  rw [Sends, grant_spec]
  rfl

/-- What the report of an empty queue puts on the lane (R34). -/
theorem grantIfEmpty_sends (s : State) (i : SiteNo) : Sends i (s.site i).emptyGrant s (s.grantIfEmpty i) := by
  rw [Sends, grantIfEmpty_eq]

/-- What parking a port puts on its lane (R24). -/
theorem parkPort_sends (s : State) (i : SiteNo) :
    Sends i (if (s.site i).command = .park then [] else [.park]) s (s.parkPort i) := by
  unfold State.parkPort
  split
  · exact .nothing rfl i
  · exact rfl

/-- What a departure from ENABLED puts on the lane of the site (R25, R28, R54). -/
theorem vacate_sends (s : State) (i : SiteNo) :
    Sends i (parkingCommands (decide ((s.site i).hold = .pending)) (s.site i)) s (s.vacate i) := by
  unfold State.vacate parkingCommands
  by_cases h : (s.site i).hold = .pending
  · simp only [h, decide_true, if_true]
    exact grant_sends _ i
  · have hpark := parkPort_sends (s.onSite i fun x => { x with queue := [] }) i
    rw [State.site_onSite_self] at hpark
    simp only [h, decide_false, Bool.false_eq_true, if_false]
    exact hpark

/-- What the expiry test at a site puts on its lane: HOLD_GRANT and PARK where entries are lost, none is left and a hold is PENDING (R34, R48). -/
def Site.expiryGrant (x : Site) (limit : Nat) : List SiteCommand :=
  let gone := x.queue.takeWhile (·.past limit)
  if gone ≠ [] ∧ x.queue.drop gone.length = [] ∧ x.hold = .pending then [.holdGrant, .park] else []

/-- The expiry test at a site, in one equation (R46, R48). -/
theorem expireSite_eq (s : State) (i : SiteNo) :
    s.expireSite i = { s.setSite i ((s.site i).expired (s.expiryLimit i)) with
      out := { s.out with
        commands := s.out.commands ++ ((s.site i).expiryGrant (s.expiryLimit i)).map fun c => (i, c) } } := by
  by_cases h : s.expiredAt i = []
  · have hsite : (s.site i).expired (s.expiryLimit i) = s.site i := if_pos h
    have hlane : (s.site i).expiryGrant (s.expiryLimit i) = [] := if_neg fun hne => hne.1 h
    rw [expireSite_of_none s i h, hsite, hlane]
    simp
  · have hsite : (s.site i).expired (s.expiryLimit i) =
        Site.grantedIfEmpty { (s.site i).losing (s.expiredAt i) with
          queue := (s.site i).queue.drop (s.expiredAt i).length } := if_neg h
    have hstep : s.expireSite i =
        (s.onSite i fun x => { x.losing (s.expiredAt i) with queue := x.queue.drop (s.expiredAt i).length }).grantIfEmpty i := by
      unfold State.expireSite
      split
      next hnone => exact absurd hnone h
      next => rfl
    have hlane : Site.emptyGrant { (s.site i).losing (s.expiredAt i) with
        queue := (s.site i).queue.drop (s.expiredAt i).length } = (s.site i).expiryGrant (s.expiryLimit i) := by
      have hgone : (s.site i).queue.takeWhile (·.past (s.expiryLimit i)) = s.expiredAt i := rfl
      simp only [Site.emptyGrant, Site.expiryGrant, losing_spec, hgone, ne_eq, h, not_false_eq_true, true_and]
      simp only [and_comm]
    rw [hstep, grantIfEmpty_eq, State.site_onSite_self, hlane, hsite]
    simp only [State.onSite, State.setSite_setSite]
    rfl

/-- What the expiry test at a site puts on its lane (R34, R48). -/
theorem expireSite_sends (s : State) (i : SiteNo) :
    Sends i ((s.site i).expiryGrant (s.expiryLimit i)) s (s.expireSite i) := by rw [Sends, expireSite_eq]

/-- A notice that becomes due draws nothing. -/
@[simp] theorem noticeDue_draws (s : State) (f : NoticeFlag) : (s.noticeDue f).draws = s.draws := by
  obtain ⟨h, -⟩ | ⟨-, ⟨h, -⟩ | ⟨h, -⟩⟩ := noticeDue_cases s f <;> rw [h]
  rfl

/-- The setting of a notice flag draws nothing. -/
@[simp] theorem raiseFlag_draws (s : State) (f : NoticeFlag) : (s.raiseFlag f).draws = s.draws := by
  unfold State.raiseFlag
  split
  · rfl
  · dsimp only
    split
    · rw [noticeDue_draws]
    · rfl

/-- Pending notices that take places draw nothing. -/
@[simp] theorem admitNotices_draws (n : Nat) (s : State) : (s.admitNotices n).draws = s.draws := by
  induction n generalizing s with
  | zero => rfl
  | succ n ih =>
    have hone : s.admitNotice.draws = s.draws := by
      obtain h | ⟨f, rest, -, -, -, h⟩ := admitNotice_cases s <;> rw [h]
      rfl
    exact (ih s.admitNotice).trans hone

/-- A summary that takes a place draws nothing. -/
@[simp] theorem enqueueSummary_draws (s : State) : s.enqueueSummary.draws = s.draws := by
  unfold State.enqueueSummary
  split
  · rfl
  · split
    · dsimp only
      split
      · simp [State.passClosed]
      · rfl
    · rfl

/-- Summaries that take places draw nothing. -/
@[simp] theorem enqueueSummaries_draws (n : Nat) (s : State) : (s.enqueueSummaries n).draws = s.draws := by
  induction n generalizing s with
  | zero => rfl
  | succ n ih => exact (ih s.enqueueSummary).trans (enqueueSummary_draws s)

/-- The end of a drain draws nothing. -/
@[simp] theorem settleDrain_draws (s : State) : s.settleDrain.draws = s.draws := by
  unfold State.settleDrain
  split
  · exact enqueueSummaries_draws 16 _
  · rfl

/-- A part whose draw count is put back where it stands. -/
theorem redraw_self {t : State} {d : Nat} (h : t.draws = d) : { t with draws := d } = t := by rw [← h]

/-- Two report steps from parts that differ in their draw counts only leave what differs in the draw counts only. -/
theorem ReportsOnly.redrawn {s s' t t' : State} (h : ReportsOnly s s') (k : ReportsOnly t t') (hst : ∃ d, t = { s with draws := d })
    (hr : Reported s' t') : t' = { s' with draws := t'.draws } := by
  obtain ⟨d, rfl⟩ := hst
  obtain ⟨hpass, hreports, hnotice⟩ := hr
  have hret : t'.ret = s'.ret := by rw [k.ret, h.ret, hreports]
  unfold ReportsOnly at h k
  rw [hpass, hnotice, hret] at k
  rw [k]
  rw [h]

/-- The end of a drain and the draw of an order are taken in either order. -/
theorem settleDrain_drawn (s : State) : s.drawn.settleDrain = s.settleDrain.drawn := by
  have h := (settleDrain_only s).redrawn (settleDrain_only s.drawn) ⟨s.draws + 1, rfl⟩
    (settleDrain_reported ⟨rfl, rfl, rfl, rfl, fun _ => rfl⟩)
  have hdraws : s.drawn.settleDrain.draws = s.settleDrain.draws + 1 := by rw [settleDrain_draws, settleDrain_draws]; rfl
  rw [h, hdraws]
  rfl

end Sys2Proof.Machine
end

section
/-! PROOFS. Entries past the limit expire (R48), and READ_DATA words that match no entry are strays (R45 to R47). -/

namespace Sys2Proof.Machine

/-- The entries past the limit at the head of a queue that is cut where they end (R48). -/
theorem expiredAt_of_split {s : State} {i : SiteNo} {gone left : List Entry} (hq : (s.site i).queue = gone ++ left)
    (hgone : ∀ e ∈ gone, (s.trim i).latency + 8 < e.age.toNat)
    (hleft : ∀ e : Entry, left.head? = some e → e.age.toNat ≤ (s.trim i).latency + 8) : s.expiredAt i = gone := by
  rw [State.expiredAt, hq]
  exact takeWhile_of_split (fun e he => decide_eq_true (hgone e he)) fun e he =>
    decide_eq_false (Nat.not_lt.2 (hleft e he))

/-- What a removal leaves of the site: the entries that stay, the counted ones of the others lost, a PENDING hold granted where none stays (R34, R46). -/
def Site.removed (x : Site) (gone left : List Entry) : Site := { x with
  queue := left
  counts := { x.counts with lost := satAdd x.counts.lost (countedIn gone) }
  flags := { x.flags with coverageGap := x.flags.coverageGap || 0 < countedIn gone }
  hold := if x.hold = .pending ∧ left = [] then .granted else x.hold
  command := if x.hold = .pending ∧ left = [] then .park else x.command }

/-- The part after a removal at a site that grants a PENDING hold where no entry is left, before the report to Pass Control (R34, R46, R55). -/
def State.removedAt (s : State) (i : SiteNo) (gone left : List Entry) : State :=
  { s.setSite i ((s.site i).removed gone left) with
    out := { s.out with
      commands := s.out.commands ++ if (s.site i).hold = .pending ∧ left = [] then [(i, .holdGrant), (i, .park)] else [] } }

/-- The report of an empty queue after entries are lost (R34, R46, R55). -/
theorem grantIfEmpty_popped (s : State) (i : SiteNo) (gone left : List Entry) :
    (s.popped i gone left).grantIfEmpty i = s.removedAt i gone left := by
  rw [grantIfEmpty_eq, State.popped, State.site_onSite_self, losing_spec, State.removedAt, Site.removed]
  simp only [Site.grantedIfEmpty, Site.emptyGrant]
  by_cases h : (s.site i).hold = .pending ∧ left = []
  · simp only [h, and_self, if_true, State.onSite, State.setSite_setSite, losing_spec]
    rfl
  · simp only [h, if_false, State.onSite, State.setSite_setSite, losing_spec]
    rfl

/-- The lane of a site after the grant that a removal at site i may call for (R25). -/
theorem lane_of_removal (i j : SiteNo) (granted : Prop) [Decidable granted] :
    ((if granted then [(i, SiteCommand.holdGrant), (i, .park)] else []).filter fun x => x.1 == j).map Prod.snd =
      if j = i ∧ granted then [.holdGrant, .park] else [] := by
  by_cases h : granted
  · simp only [h, if_true, and_true]
    exact lane_of_given i j [.holdGrant, .park]
  · simp [h]

/-- Settles O26, by the expiry of the run at the head as a removal and its reports. -/
theorem expiredEntriesAreLost : Obligations.ExpiredEntriesAreLost := by
  unfold Obligations.ExpiredEntriesAreLost
  intro i s gone left hq hgone hleft
  have hexpired : s.expiredAt i = gone := expiredAt_of_split hq hgone hleft
  refine ⟨fun hnone => congrArg Host.Outcome.next (if_pos (hexpired.trans hnone)), fun hsome => ?_⟩
  have hexec : exec (.entryExpiry i) s = .next (s.begin.expireSite i).settleDrain :=
    congrArg Host.Outcome.next (if_neg fun h => hsome (hexpired.symm.trans h))
  have hpop : s.begin.expireSite i = (s.begin.popped i gone left).grantIfEmpty i := by
    have hdrop : s.begin.onSite i (fun x => { x.losing gone with queue := x.queue.drop gone.length }) =
        s.begin.popped i gone left := by
      simp only [State.popped, State.onSite, State.begin_site, hq, List.drop_left]
    have hbegin : s.begin.expiredAt i = gone := hexpired
    unfold State.expireSite
    rw [hbegin]
    split
    next => exact absurd rfl hsome
    next => rw [hdrop]
  have hremoved : s.begin.expireSite i = s.begin.removedAt i gone left := hpop.trans (grantIfEmpty_popped s.begin i gone left)
  rw [hremoved] at hexec
  have hsite (j : SiteNo) : (s.begin.removedAt i gone left).settleDrain.site j =
      if j = i then (s.site i).removed gone left else s.site j :=
    (State.settleDrain_site _ j).trans (s.begin.site_setSite i j _)
  refine ⟨_, hexec, (hsite i).trans (if_pos rfl), fun j hj => (hsite j).trans (if_neg hj), fun j => ?_, ?_⟩
  · rw [State.laneCommands, State.settleDrain_out]
    exact lane_of_removal i j _
  · dsimp only
    rw [hsite i, if_pos rfl]
    exact ⟨rfl, fun hdraining => settleDrain_of_not_draining _ hdraining⟩

/-- A stray and the draw of an order are taken in either order. -/
theorem stray_drawn (s : State) (i : SiteNo) : s.drawn.stray i = (s.stray i).drawn := rfl

/-- The report of an empty queue and the draw of an order are taken in either order. -/
theorem grantIfEmpty_drawn (s : State) (i : SiteNo) : s.drawn.grantIfEmpty i = (s.grantIfEmpty i).drawn := by
  rw [grantIfEmpty_eq, grantIfEmpty_eq]
  rfl

/-- The reports of a removal draw nothing. -/
theorem reportRemoval_draws (s : State) (i : SiteNo) : (s.reportRemoval i).draws = s.draws := by
  rw [State.reportRemoval, settleDrain_draws, (grantIfEmpty_only s i).draws]

/-- The reports of a removal and the draw of an order are taken in either order. -/
theorem reportRemoval_drawn (s : State) (i : SiteNo) : s.drawn.reportRemoval i = (s.reportRemoval i).drawn := by
  rw [State.reportRemoval, grantIfEmpty_drawn, settleDrain_drawn]
  rfl

/-- A step and the draw taken with it, the draw count put back. -/
theorem undraw {t : State} {d : Nat} (h : t.draws = d) : { t.drawn with draws := d } = t := by rw [← h]; rfl

/-- What is done at a site leaves a drain that is not done as it was, where its pass and the counted entries are what they were. -/
theorem settleDrain_of_settled {s t : State} (hpass : t.pass = s.pass)
    (hcounted : ∀ i, countedIn (t.site i).queue = countedIn (s.site i).queue) (h : s.drainDone = false) : t.settleDrain = t := by
  have hdone : t.drainDone = false := drainDone_congr hpass (fun _ => hcounted) h
  exact if_neg (by rw [hdone]; exact Bool.false_ne_true)

/-- A stray after a removal at the same site is the removal after the stray (R46, R47). -/
theorem popped_stray (s : State) (i : SiteNo) (older newer : List Entry) :
    (s.popped i older newer).stray i = (s.stray i).popped i older newer := by
  simp only [State.popped, State.stray, State.onSite, State.site_setSite_self, State.setSite_setSite, losing_spec]

/-- A stray leaves every queue. -/
theorem stray_queue (s : State) (i j : SiteNo) : ((s.stray i).site j).queue = (s.site j).queue := by
  rw [State.stray, State.site_onSite]
  split <;> rfl

/-- The report of an empty queue leaves every queue. -/
theorem grantIfEmpty_queue (s : State) (i j : SiteNo) : ((s.grantIfEmpty i).site j).queue = (s.site j).queue := by
  rw [site_grantIfEmpty]
  split <;> rfl

/-- Settles O24, by where the word's tag falls among those of the queue. -/
theorem unmatchedWordsAreStrays : Obligations.UnmatchedWordsAreStrays := by
  unfold Obligations.UnmatchedWordsAreStrays
  have hread {i : SiteNo} {tag : Half} {s : State} {head : Entry} {older newer : List Entry} (data : Half)
      (hq : (s.site i).queue = older ++ newer) (hhead : (older ++ newer).head? = some head)
      (hpos : 1 ≤ (tag - head.tag).toNat) (hfar : (tag - head.tag).toNat ≤ 32767)
      (holder : ∀ e ∈ older, (e.tag - head.tag).toNat < (tag - head.tag).toNat)
      (hnewer : ∀ e ∈ newer, (tag - head.tag).toNat < (e.tag - head.tag).toNat) :
      s.begin.takeReadData i tag data = (s.begin.popped i older newer).afterRemoval i older true fun t => t.stray i :=
    State.takeReadData_of_unmatched data hq hhead hpos hfar holder fun e he => by
      have hlt := hnewer e (List.mem_of_head? he)
      exact ⟨hlt.le, fun heq => absurd (heq ▸ hlt) (Nat.lt_irrefl _)⟩
  refine ⟨fun i tag data s h => ?_, fun i tag data s head older newer hq hhead hpos hfar holder hnewer hdraining => ?_,
    fun i tag data s head older newer hq hhead hpos hfar holder hnewer => ?_⟩
  · have hstray : s.begin.takeReadData i tag data = s.begin.stray i := State.takeReadData_of_stray data h
    have hsite : (s.begin.stray i).site i = { s.site i with
        counts := { (s.site i).counts with strays := satAdd (s.site i).counts.strays 1 } } := State.site_onSite_self ..
    refine ⟨s.begin.stray i, congrArg Host.Outcome.next hstray, ?_, ?_⟩
    · rw [hsite]
      exact satAdd_toNat _ 1
    · rw [hsite]
      rfl
  · have hstray : s.begin.takeReadData i tag data = (s.begin.stray i).removedAt i older newer := by
      have hnot : ((s.begin.popped i older newer).stray i).grantIfEmpty i = (s.begin.stray i).removedAt i older newer := by
        rw [popped_stray, grantIfEmpty_popped]
      rw [hread data hq hhead hpos hfar holder hnewer]
      obtain ⟨h, -⟩ | ⟨⟨-, -, hdone⟩, -⟩ := afterRemoval_cases (s.begin.popped i older newer) i older true fun t => t.stray i
      · rw [h, State.reportRemoval, hnot]
        exact settleDrain_of_not_draining _ hdraining
      · have hdrain : s.draining = true := (Bool.and_eq_true _ _ ▸ hdone).1
        rw [hdraining] at hdrain
        exact absurd hdrain Bool.false_ne_true
    have hsite : ((s.begin.stray i).removedAt i older newer).site i = ((s.begin.stray i).site i).removed older newer :=
      State.site_setSite_self ..
    have hx : (s.begin.stray i).site i = { s.site i with
        counts := { (s.site i).counts with strays := satAdd (s.site i).counts.strays 1 } } := State.site_onSite_self ..
    refine ⟨_, congrArg Host.Outcome.next hstray, hsite.trans (congrArg (fun x => Site.removed x older newer) hx), ?_⟩
    rw [hsite, State.removedAt, hx, State.stray, State.onSite, State.setSite_setSite]
    rfl
  · intro x popped strayed
    have hpopped : s.begin.popped i older newer = popped := by
      rw [State.popped, State.onSite, losing_spec]
      rfl
    have hstrays {v : State} (h : v.site i = popped.site i) : v.stray i = strayed v := by
      have hcount : (v.site i).counts.strays = x.counts.strays := by rw [h, State.site_setSite_self]
      simp only [State.stray, State.onSite, hcount]
      rfl
    have hafter := hread data hq hhead hpos hfar holder hnewer
    rw [hpopped] at hafter
    have hdrawn : popped.draws = s.draws := rfl
    refine ⟨_, congrArg Host.Outcome.next hafter, ?_⟩
    clear_value strayed popped
    have hfirst : (popped.stray i).reportRemoval i = ((strayed popped).grantIfEmpty i).settleDrain := by
      rw [hstrays rfl, State.reportRemoval]
    have hdraws : ((popped.stray i).reportRemoval i).draws = s.draws := (reportRemoval_draws _ i).trans hdrawn
    obtain ⟨h, -⟩ | ⟨-, h | h⟩ := afterRemoval_cases popped i older true fun t => t.stray i <;> rw [h]
    · exact .inl ((redraw_self hdraws).trans hfirst)
    · refine .inl ?_
      rw [stray_drawn, reportRemoval_drawn, undraw hdraws, hfirst]
    · refine .inr ?_
      have hsettled : popped.settleDrain.drainDone = false := settleDrain_settles popped
      have hlast : (popped.settleDrain.stray i).reportRemoval i = (strayed popped.settleDrain).grantIfEmpty i := by
        rw [← hstrays (State.settleDrain_site popped i), State.reportRemoval]
        refine settleDrain_of_settled (s := popped.settleDrain) (grantIfEmpty_only _ i).pass (fun j => ?_) hsettled
        rw [grantIfEmpty_queue, stray_queue]
      have hsame : ((popped.settleDrain.stray i).reportRemoval i).draws = s.draws := by
        rw [reportRemoval_draws]
        exact (settleDrain_draws popped).trans hdrawn
      rw [settleDrain_drawn, stray_drawn, reportRemoval_drawn, undraw hsame, hlast]

end Sys2Proof.Machine
end

section
/-! PROOFS. What a departure from ENABLED leaves of calibration (R126, R128), what a drop puts on the lane, and what the offer of a FAIL record leaves (R161). -/

namespace Sys2Proof.Machine

/-- Two parts whose order tables, conditions and lanes agree find the same position eligible (R114). -/
theorem State.walk_congr {s t : State} (hindex : t.cal.index = s.cal.index) (horder : t.tables.order = s.tables.order)
    (hlength : t.tables.orderLength = s.tables.orderLength)
    (hsite : ∀ k, (t.site k).condition = (s.site k).condition ∧ (t.site k).lane = (s.site k).lane) : t.walk = s.walk := by
  have helig (k : SiteNo) : t.eligible k = s.eligible k := by
    rw [State.eligible, (hsite k).1, (hsite k).2]
    rfl
  simp only [State.walk, State.orderAt, hindex, horder, hlength, helig]

/-- What a start leaves of calibration depends on calibration, the order table, the conditions and the lanes only (R113, R114). -/
theorem attemptRun_cal_congr {s t : State} (hcal : t.cal = s.cal) (horder : t.tables.order = s.tables.order)
    (hlength : t.tables.orderLength = s.tables.orderLength)
    (hsite : ∀ k, (t.site k).condition = (s.site k).condition ∧ (t.site k).lane = (s.site k).lane) :
    t.attemptRun.cal = s.attemptRun.cal := by
  have hwalk : t.walk = s.walk := State.walk_congr (by rw [hcal]) horder hlength hsite
  simp only [State.attemptRun, hcal, hwalk, hlength, State.orderAt, horder]
  split
  · split <;> simp only [State.startRun]
  · exact hcal

/-- A departure that no run is on leaves what `Departs` says (R126). -/
theorem departs_of_none {leaves : SiteNo → Prop} {s t : State} (h : ∀ i, leaves i → ¬s.runsOn i) (hcal : t.cal = s.cal)
    (htables : t.tables = s.tables) : Departs leaves s t :=
  ⟨fun i hi hrun => absurd hrun (h i hi), fun _ => ⟨hcal, htables⟩⟩

/-- The departure of the site that a run is on leaves what `Departs` says, whatever the same step does besides that leaves conditions, lanes and the order table (R126, R128). -/
theorem departs_of_departure {leaves : SiteNo → Prop} {s v t : State} {i : SiteNo} (hcal : v.cal = s.cal)
    (htables : v.tables = s.tables) (hleaves : leaves i) (hrun : s.runsAt i = true) (htcal : t.cal = (v.departure i).cal)
    (httables : t.tables = (v.departure i).tables)
    (hsite : ∀ k, (t.site k).condition = ((v.departure i).site k).condition ∧ (t.site k).lane = ((v.departure i).site k).lane) :
    Departs leaves s t := by
  have hon : s.runsOn i := (s.runsAt_iff i).1 hrun
  have hvrun : v.runsAt i = true := by rw [State.runsAt, hcal]; exact hrun
  have htrim : v.trim i = s.trim i := by rw [State.trim, htables]; rfl
  have hstart {w : State} (hw : v.departure i = w.attemptRun) :
      t.cal = (State.attemptRun { t with cal := w.cal }).cal ∧ t.tables = w.tables := by
    have ht : t.tables = w.tables := by rw [httables, hw, State.attemptRun_tables]
    refine ⟨?_, ht⟩
    rw [htcal, hw]
    refine (attemptRun_cal_congr (s := w) (t := { t with cal := w.cal }) rfl (congrArg Tables.order ht) (congrArg Tables.orderLength ht) fun k => ?_).symm
    have hk := hsite k
    rw [hw, State.attemptRun_site] at hk
    exact hk
  refine ⟨fun j hj hjrun => ?_, fun hnone => absurd hon (hnone i hleaves)⟩
  obtain rfl : i = j := Option.some.inj (hon.1.symm.trans hjrun.1)
  have hd := departure_of_running hvrun
  rw [hcal] at hd
  refine ⟨fun hdue => ?_, fun hnot => ?_⟩
  · have hdep : v.departure i = v.completeRun i := hd.trans (if_pos hdue)
    rw [completeRun_spec, hcal, htables, htrim] at hdep
    obtain ⟨hc, ht⟩ := hstart hdep
    refine ⟨hc, fun p hp => ?_⟩
    rw [ht, hp]
    rfl
  · have hdep : v.departure i = v.endRun := hd.trans (if_neg hnot)
    rw [endRun_of_target v i (hcal ▸ hon.1), hcal] at hdep
    obtain ⟨hc, ht⟩ := hstart hdep
    exact ⟨hc, ht.trans htables⟩

/-- A step that leaves the outputs leaves every lane. -/
theorem laneCommands_congr {s t : State} (h : t.out = s.out) (j : SiteNo) : t.laneCommands j = s.laneCommands j := by
  rw [State.laneCommands, h]
  rfl

/-- What a drop puts on the lane of the site (R25, R28). -/
theorem leaveDropped_sends (s : State) (i : SiteNo) (c : DropCause) :
    Sends i (parkingCommands (decide ((s.site i).hold = .pending)) (s.site i)) s (s.leaveDropped i c) := by
  have hvacate := vacate_sends (s.setCondition i (.dropped c)) i
  have hsite : (s.setCondition i (.dropped c)).site i = { s.site i with condition := .dropped c } :=
    State.site_onSite_self ..
  rw [hsite] at hvacate
  rw [Sends, State.leaveDropped, (departure_only _ i).out]
  exact hvacate

/-- A drop leaves pass, return side and notices as they are. -/
theorem leaveDropped_keeps (s : State) (i : SiteNo) (c : DropCause) : (s.leaveDropped i c).pass = s.pass ∧
    (s.leaveDropped i c).ret = s.ret ∧ (s.leaveDropped i c).notice = s.notice := by
  have hd := departure_only ((s.setCondition i (.dropped c)).vacate i) i
  have hv := vacate_only (s.setCondition i (.dropped c)) i
  exact ⟨hd.pass.trans hv.pass, hd.ret.trans hv.ret, hd.notice.trans hv.notice⟩

/-- The drop of a site with its departure leaves of calibration what `Departs` says (R126, R128). -/
theorem departs_of_drop {s v t : State} {i : SiteNo} {c : DropCause} {drops : Prop} (hdrops : drops) (hcal : v.cal = s.cal)
    (htables : v.tables = s.tables) (htcal : t.cal = (v.leaveDropped i c).cal)
    (httables : t.tables = (v.leaveDropped i c).tables)
    (hsite : ∀ k, (t.site k).condition = ((v.leaveDropped i c).site k).condition ∧
      (t.site k).lane = ((v.leaveDropped i c).site k).lane) : Departs (fun j => j = i ∧ drops) s t := by
  have hv := vacate_only (v.setCondition i (.dropped c)) i
  cases hrun : s.runsAt i with
  | true => exact departs_of_departure (hv.cal.trans hcal) (hv.tables.trans htables) ⟨rfl, hdrops⟩ hrun htcal httables hsite
  | false =>
    have hvrun : ((v.setCondition i (.dropped c)).vacate i).runsAt i = false := by
      rw [State.runsAt, hv.cal]
      exact hcal ▸ hrun
    rw [State.leaveDropped, departure_of_not_running hvrun] at htcal httables
    refine departs_of_none ?_ (htcal.trans (hv.cal.trans hcal)) (httables.trans (hv.tables.trans htables))
    rintro j ⟨rfl, -⟩ hon
    rw [(s.runsAt_iff j).2 hon] at hrun
    exact Bool.false_ne_true hrun.symm

/-- The flag that the offer of a FAIL record sets enters no report while the offer finds no place (R161, R168). -/
theorem raiseFlag_reports_of_waits {s : State} (f : NoticeFlag) (h : s.reportRoom = false ∨ s.summariesWaiting = true) :
    (s.raiseFlag f).ret = s.ret := by
  by_cases hset : bitOf s.notice.flags f.bit = true
  · rw [raiseFlag_of_set s f hset]
  · rw [Bool.not_eq_true] at hset
    cases hm : bitOf s.notice.mask f.bit with
    | false => rw [raiseFlag_of_silent s f hset hm]
    | true =>
      have hwaits : State.reportRoom { s with notice := { s.notice with flags := s.notice.flags ||| f.set } } = false ∨
          State.summariesWaiting { s with notice := { s.notice with flags := s.notice.flags ||| f.set } } = true ∨
          s.notice.waiting ≠ [] := h.imp id .inl
      rw [raiseFlag_of_masked s f hset hm, noticeDue_of_waits f hwaits]
      split <;> rfl

/-- The offer of a FAIL record that finds a place (R161). -/
theorem offerFail_of_room {s : State} (f : Frame) (hroom : s.reportRoom = true) (hsum : s.summariesWaiting = false) :
    s.offerFail f = s.enqueueReport f := by
  simp [State.offerFail, hroom, hsum]

/-- The offer of a FAIL record that finds none: one more is counted as missed, and REPORT_DROPPED is set (R161). -/
theorem offerFail_of_full {s : State} (f : Frame) (h : s.reportRoom = false ∨ s.summariesWaiting = true) :
    (s.offerFail f).ret = { s.ret with drops := satAdd s.ret.drops 1 } ∧
    bitOf (s.offerFail f).notice.flags 4 = true := by
  have hnot : (s.reportRoom && !s.summariesWaiting) = false := by obtain h | h := h <;> simp [h]
  have hoffer : s.offerFail f =
      State.raiseFlag { s with ret := { s.ret with drops := satAdd s.ret.drops 1 } } .reportDropped := by
    rw [State.offerFail, hnot, if_neg Bool.false_ne_true]
  rw [hoffer]
  exact ⟨raiseFlag_reports_of_waits (s := { s with ret := { s.ret with drops := satAdd s.ret.drops 1 } }) .reportDropped h,
    raiseFlag_sets _ .reportDropped⟩

/-- The offer of a FAIL record leaves the outputs, the pass, the draws, the tables and calibration (R161). -/
theorem offerFail_keeps (s : State) (f : Frame) : (s.offerFail f).out = s.out ∧ (s.offerFail f).pass = s.pass ∧
    (s.offerFail f).draws = s.draws ∧ (s.offerFail f).tables = s.tables ∧ (s.offerFail f).cal = s.cal := by
  unfold State.offerFail
  split
  · exact ⟨rfl, rfl, rfl, rfl, rfl⟩
  · refine ⟨State.raiseFlag_out .., State.raiseFlag_pass .., raiseFlag_draws .., ?_, ?_⟩
    · exact (raiseFlag_only _ _).tables
    · exact (raiseFlag_only _ _).cal

end Sys2Proof.Machine
end

section
/-! PROOFS. READ_DATA words that match an entry: the compare with its marks, the drop it may make, and the reports that follow (R45, R50 to R52, R69, R78, R100). -/

namespace Sys2Proof.Machine

/-- A notice that becomes due leaves the flags. -/
theorem noticeDue_flags (s : State) (f : NoticeFlag) : (s.noticeDue f).notice.flags = s.notice.flags := by
  obtain ⟨h, -⟩ | ⟨-, ⟨h, -⟩ | ⟨h, -⟩⟩ := noticeDue_cases s f <;> rw [h]
  rfl

/-- A step that clears no notice flag. -/
def FlagsStay (s t : State) : Prop := ∀ k, bitOf s.notice.flags k = true → bitOf t.notice.flags k = true

/-- The setting of a flag clears none (R165). -/
theorem raiseFlag_flagsStay (s : State) (f : NoticeFlag) : FlagsStay s (s.raiseFlag f) := by
  intro k hk
  have hset : bitOf (s.notice.flags ||| f.set) k = true := by
    unfold bitOf at hk ⊢
    rw [BitVec.getLsbD_or, hk, Bool.true_or]
  unfold State.raiseFlag
  split
  · exact hk
  · dsimp only
    split
    · rw [noticeDue_flags]
      exact hset
    · exact hset

/-- Pending notices that take places clear no flag. -/
theorem admitNotices_flagsStay (n : Nat) (s : State) : FlagsStay s (s.admitNotices n) := by
  induction n generalizing s with
  | zero => exact fun _ hk => hk
  | succ n ih =>
    have hone : s.admitNotice.notice.flags = s.notice.flags := by
      obtain h | ⟨f, rest, -, -, -, h⟩ := admitNotice_cases s <;> rw [h]
      rfl
    exact fun k hk => ih s.admitNotice k (by rw [hone]; exact hk)

/-- The end of a drain clears no flag (R98). -/
theorem settleDrain_flagsStay (s : State) : FlagsStay s s.settleDrain := by
  have hclosed (t : State) : FlagsStay t t.passClosed := fun k hk =>
    raiseFlag_flagsStay _ .passClosed k
      (admitNotices_flagsStay t.notice.waiting.length { t with pass := { t.pass with state := .closed, summary := none } } k hk)
  have hone (t : State) : FlagsStay t t.enqueueSummary := by
    unfold State.enqueueSummary
    split
    · exact fun _ hk => hk
    · split
      · dsimp only
        split
        · exact hclosed (t.enqueueReport _)
        · exact fun _ hk => hk
      · exact fun _ hk => hk
  have hall (n : Nat) (t : State) : FlagsStay t (t.enqueueSummaries n) := by
    induction n generalizing t with
    | zero => exact fun _ hk => hk
    | succ n ih => exact fun k hk => ih t.enqueueSummary k (hone t k hk)
  unfold State.settleDrain
  split
  · exact hall 16 { s with pass := { s.pass with summary := some 0 } }
  · exact fun _ hk => hk

/-- The setting of a flag and the draw of an order are taken in either order. -/
theorem raiseFlag_drawn (s : State) (f : NoticeFlag) : s.drawn.raiseFlag f = (s.raiseFlag f).drawn := by
  have hsame : Alike (s.raiseFlag f) (s.drawn.raiseFlag f) := Alike.raiseFlag (v := s) (w := s.drawn) ⟨rfl, rfl, rfl, rfl, fun _ => rfl⟩ f
  have h := (raiseFlag_only s f).redrawn (raiseFlag_only s.drawn f) ⟨s.draws + 1, rfl⟩ hsame.reported
  have hdraws : (s.drawn.raiseFlag f).draws = (s.raiseFlag f).draws + 1 := by rw [raiseFlag_draws, raiseFlag_draws]; rfl
  rw [h, hdraws]
  rfl

/-- A compare up to its analysis and the draw of an order are taken in either order. -/
theorem logged_drawn (s : State) (i : SiteNo) (e : Entry) (data : Half) : s.drawn.logged i e data = (s.logged i e data).drawn := by
  have hoffer (t : State) (f : Frame) : t.drawn.offerFail f = (t.offerFail f).drawn := by
    unfold State.offerFail
    rw [apply_ite State.drawn]
    exact if_congr Iff.rfl rfl (raiseFlag_drawn { t with ret := { t.ret with drops := satAdd t.ret.drops 1 } } .reportDropped)
  unfold State.logged
  dsimp only
  rw [apply_ite State.drawn]
  exact if_congr Iff.rfl (hoffer (s.onSite i fun x => x.compared e data) (s.failFrame i e data)) rfl

/-- The history ring with one fail written, as its last eight entries (R52). -/
theorem pushRing_eq (ring : List RingEntry) (r : RingEntry) : pushRing ring r = (ring ++ [r]).drop (ring.length + 1 - 8) := by
  unfold pushRing
  split
  next h => rw [show ring.length + 1 - 8 = 0 by omega, List.drop_zero]
  next h => rw [show ring.length + 1 - 8 = ring.length - 7 by omega, List.drop_append_of_le_length (by omega)]

/-- A compare with its marks in the record, before any drop: a counted fail taken (R50 to R52, R68). -/
def State.markedAt (s : State) (i : SiteNo) (e : Entry) (data : Half) : State :=
  if failBitsOf e data ≠ 0 ∧ e.counted = true then (s.logged i e data).failTaken i e else s.logged i e data

/-- A compare is its marks and the drop it may make (R50 to R52, R78). -/
theorem compareEntry_eq_marked (s : State) (i : SiteNo) (e : Entry) (data : Half) :
    s.compareEntry i e data =
      if (s.site i).fallsTo e data then ((s.markedAt i e data).leaveDropped i .unrepairable).raiseFlag .siteDropped
      else s.markedAt i e data := by
  have hsite : (s.logged i e data).site i = (s.site i).compared e data := by rw [State.site_logged, if_pos rfl]
  rw [State.compareEntry_eq, State.markedAt]
  by_cases h : failBitsOf e data ≠ 0 ∧ e.counted = true
  · have hfalls : (s.site i).fallsTo e data = ((s.site i).compared e data).dropsOn e := by
      simp only [Site.fallsTo, h.2, bne_iff_ne.2 h.1, Bool.true_and]
    rw [if_pos h, if_pos h, State.analyse_eq, hsite, hfalls]
  · have hfalls : (s.site i).fallsTo e data = false := Bool.eq_false_iff.2 fun hf => by
      simp only [Site.fallsTo, Bool.and_eq_true, bne_iff_ne] at hf
      exact h hf.1
    rw [if_neg h, if_neg h, hfalls, if_neg Bool.false_ne_true]

/-- The marks of a compare leave the outputs, the pass, the draws, the tables and calibration; the return side and the notices are those of the FAIL record's offer. -/
theorem markedAt_keeps (s : State) (i : SiteNo) (e : Entry) (data : Half) : (s.markedAt i e data).out = s.out ∧
    (s.markedAt i e data).pass = s.pass ∧ (s.markedAt i e data).draws = s.draws ∧ (s.markedAt i e data).tables = s.tables ∧
    (s.markedAt i e data).cal = s.cal ∧ (s.markedAt i e data).ret = (s.logged i e data).ret ∧
    (s.markedAt i e data).notice = (s.logged i e data).notice := by
  have hlogged : (s.logged i e data).out = s.out ∧ (s.logged i e data).pass = s.pass ∧ (s.logged i e data).draws = s.draws ∧
      (s.logged i e data).tables = s.tables ∧ (s.logged i e data).cal = s.cal := by
    unfold State.logged
    dsimp only
    split
    · exact offerFail_keeps _ _
    · exact ⟨rfl, rfl, rfl, rfl, rfl⟩
  obtain ⟨hout, hpass, hdraws, htables, hcal⟩ := hlogged
  unfold State.markedAt
  split
  · exact ⟨hout, hpass, hdraws, htables, hcal, rfl, rfl⟩
  · exact ⟨hout, hpass, hdraws, htables, hcal, rfl, rfl⟩

/-- A site after the marks of a compare (R50 to R52, R68). -/
theorem site_markedAt (s : State) (i j : SiteNo) (e : Entry) (data : Half) :
    (s.markedAt i e data).site j = if j = i then (s.site j).marked e data else s.site j := by
  unfold State.markedAt Site.marked
  by_cases h : failBitsOf e data ≠ 0 ∧ e.counted = true
  · rw [if_pos h, if_pos h, State.failTaken, State.site_onSite, State.site_logged]
    split <;> rfl
  · rw [if_neg h, if_neg h, State.site_logged]

/-- The offer of a compare: none where nothing failed or the raw log is off, else the FAIL record placed or missed (R52, R161). -/
theorem logged_ret (s : State) (i : SiteNo) (e : Entry) (data : Half) :
    (failBitsOf e data = 0 ∨ bitOf s.ret.rawLog i.val = false →
      (s.logged i e data).ret = s.ret ∧ (s.logged i e data).notice = s.notice) ∧
    (failBitsOf e data ≠ 0 → bitOf s.ret.rawLog i.val = true → s.reportRoom = true → s.summariesWaiting = false →
      (s.logged i e data).ret = { s.ret with reports := s.ret.reports ++ [s.failFrame i e data] } ∧
      (s.logged i e data).notice = s.notice) ∧
    (failBitsOf e data ≠ 0 → bitOf s.ret.rawLog i.val = true → s.reportRoom = false ∨ s.summariesWaiting = true →
      (s.logged i e data).ret = { s.ret with drops := satAdd s.ret.drops 1 } ∧
      bitOf (s.logged i e data).notice.flags 4 = true) := by
  have hoffers (h : failBitsOf e data ≠ 0) (hlog : bitOf s.ret.rawLog i.val = true) :
      s.logged i e data = (s.onSite i fun x => x.compared e data).offerFail (s.failFrame i e data) := if_pos ⟨h, hlog⟩
  refine ⟨fun h => ?_, fun h hlog hroom hsum => ?_, fun h hlog hfull => ?_⟩
  · have hnot : ¬(failBitsOf e data ≠ 0 ∧ bitOf s.ret.rawLog i.val = true) := fun hn => by
      obtain h | h := h
      · exact hn.1 h
      · exact Bool.false_ne_true (h.symm.trans hn.2)
    have hnone : s.logged i e data = s.onSite i fun x => x.compared e data := if_neg hnot
    rw [hnone]
    exact ⟨rfl, rfl⟩
  · rw [hoffers h hlog, offerFail_of_room (s := s.onSite i fun x => x.compared e data) _ hroom hsum]
    exact ⟨rfl, rfl⟩
  · rw [hoffers h hlog]
    exact offerFail_of_full (s := s.onSite i fun x => x.compared e data) _ hfull

/-- A drop leaves no hold PENDING, so the report of the empty queue finds nothing to grant (R28, R34). -/
theorem Site.grantedIfEmpty_droppedBy (x : Site) (c : DropCause) (running : Bool) :
    (x.droppedBy c running).grantedIfEmpty = x.droppedBy c running ∧ (x.droppedBy c running).emptyGrant = [] := by
  have hnot : ¬((x.droppedBy c running).hold = .pending ∧ (x.droppedBy c running).queue = []) := by
    rintro ⟨hp, -⟩
    simp only [Site.droppedBy] at hp
    split at hp
    · exact nomatch hp
    next hne => exact hne hp
  exact ⟨if_neg hnot, if_neg hnot⟩

section
variable (x : Site) (older newer : List Entry) (e : Entry) (data : Half)

/-- The records that a compare leaves at the site (R51, R68). -/
def Site.recordsAfter : Vector Record 8 :=
  if failBitsOf e data ≠ 0 ∧ e.counted = true then x.records.set e.region ((x.records.get e.region).take (e.row, e.col))
  else x.records

/-- Whether a compare drops the site: its verdict becomes UNREPAIRABLE at an ENABLED site with the drop setting on (R32, R78). -/
def Site.DropsFor : Prop :=
  x.verdict ≠ .unrepairable ∧ Site.verdict { x with records := x.recordsAfter e data } = .unrepairable ∧
    x.condition = .enabled ∧ x.dropOn = true

/-- The site as the older entries are lost and the entry is popped (R45, R46). -/
def Site.poppedTo : Site := { x.losing older with queue := newer }

/-- The drop after the removals is the one that the site as it stood calls for (R32, R78). -/
theorem Site.fallsTo_poppedTo : (x.poppedTo older newer).fallsTo e data = true ↔ x.DropsFor e data := by
  have hverdict (y : Site) (h : y.records = x.records) : y.verdict = x.verdict := by simp only [Site.verdict, h]
  have hrecords : (x.poppedTo older newer).records = x.records := by rw [Site.poppedTo, losing_spec]
  have hcondition : (x.poppedTo older newer).condition = x.condition := by rw [Site.poppedTo, losing_spec]
  have hdrop : (x.poppedTo older newer).dropOn = x.dropOn := by rw [Site.poppedTo, losing_spec]
  have hbefore : ((x.poppedTo older newer).compared e data).verdict = x.verdict := hverdict _ hrecords
  have hafter (h : failBitsOf e data ≠ 0 ∧ e.counted = true) :
      (((x.poppedTo older newer).compared e data).takeFail e.region (e.row, e.col)).verdict =
        Site.verdict { x with records := x.recordsAfter e data } := by
    simp only [Site.verdict, Site.takeFail, Site.compared, hrecords, Site.recordsAfter, if_pos h]
  rw [Site.DropsFor]
  simp only [Site.fallsTo, Site.dropsOn, Bool.and_eq_true, bne_iff_ne, beq_iff_eq, ne_eq, hbefore]
  constructor
  · rintro ⟨hcounted, ⟨⟨hv, hu⟩, hc⟩, hd⟩
    exact ⟨hv, (hafter hcounted).symm.trans hu, hcondition ▸ hc, hdrop ▸ hd⟩
  · rintro ⟨hv, hu, hc, hd⟩
    by_cases h : failBitsOf e data ≠ 0 ∧ e.counted = true
    · exact ⟨h, ⟨⟨hv, (hafter h).trans hu⟩, hcondition.trans hc⟩, hdrop.trans hd⟩
    · rw [Site.recordsAfter, if_neg h] at hu
      exact absurd hu hv

/-- The site after the removals and the marks of a compare, field by field (R45, R46, R50 to R52). -/
theorem Site.marked_poppedTo : (x.poppedTo older newer).marked e data = { x with
    queue := newer
    counts := { x.counts with
      compares := if e.counted then satAdd x.counts.compares 1 else x.counts.compares
      fails := if failBitsOf e data ≠ 0 ∧ e.counted then satAdd x.counts.fails 1 else x.counts.fails
      lost := satAdd x.counts.lost (countedIn older)
      ringWrites := if failBitsOf e data ≠ 0 then satAdd x.counts.ringWrites 1 else x.counts.ringWrites }
    flags := { x.flags with coverageGap := x.flags.coverageGap || 0 < countedIn older }
    ring := if failBitsOf e data ≠ 0 then
      (x.ring ++ [ringEntryOf e (failBitsOf e data)]).drop (x.ring.length + 1 - 8) else x.ring
    records := x.recordsAfter e data } := by
  unfold Site.marked Site.poppedTo Site.compared Site.recordsAfter Counts.compared
  rw [losing_spec]
  by_cases hbits : failBitsOf e data = 0#16
  · by_cases hc : e.counted = true <;> simp [hbits, hc]
  · by_cases hc : e.counted = true <;> simp [hbits, hc, pushRing_eq, Site.takeFail]

end

/-- The lane of a site after a compare and the report of an empty queue (R25, R28, R34). -/
theorem compareRemoval_lane (s : State) (i j : SiteNo) (e : Entry) (data : Half) :
    ((s.compareEntry i e data).reportRemoval i).laneCommands j = s.laneCommands j ++
      if j = i then
        if (s.site i).fallsTo e data then parkingCommands (decide ((s.site i).hold = .pending)) (s.site i)
        else (s.site i).emptyGrant
      else [] := by
  obtain ⟨hout, -⟩ := markedAt_keeps s i e data
  obtain ⟨-, hhold, hqueue⟩ := (s.site i).marked_keeps e data
  have hcommand : ((s.site i).marked e data).command = (s.site i).command := by
    unfold Site.marked
    split <;> rfl
  have hmarked : (s.markedAt i e data).site i = (s.site i).marked e data := by rw [site_markedAt, if_pos rfl]
  rw [State.reportRemoval, laneCommands_congr (State.settleDrain_out _) j, (grantIfEmpty_sends _ i).lane j,
    compareEntry_eq_marked]
  by_cases hf : (s.site i).fallsTo e data = true
  · have hdrop := (leaveDropped_sends (s.markedAt i e data) i .unrepairable).lane j
    have hsite : ((s.markedAt i e data).leaveDropped i .unrepairable).site i =
        ((s.site i).marked e data).droppedBy .unrepairable ((s.markedAt i e data).runsAt i) := by
      rw [State.site_leaveDropped, if_pos rfl, hmarked]
    rw [laneCommands_congr hout j, hmarked, hhold] at hdrop
    simp only [if_pos hf]
    rw [State.raiseFlag_site, hsite, (Site.grantedIfEmpty_droppedBy _ _ _).2,
      laneCommands_congr (State.raiseFlag_out _ _) j, hdrop]
    simp only [ite_self, List.append_nil, parkingCommands, hcommand]
  · have hgrant : ((s.site i).marked e data).emptyGrant = (s.site i).emptyGrant := by
      rw [Site.emptyGrant, hhold, hqueue]
      rfl
    simp only [if_neg hf, hmarked, hgrant, laneCommands_congr hout j]

/-- What follows the removals of a READ_DATA word that matches: the compare and the reports, from the part as the removals leave it or as the end of a drain leaves that (R45, R55, R100). -/
theorem afterRemoval_compare (p : State) (i : SiteNo) (older : List Entry) (e : Entry) (data : Half) :
    ∃ v, ReportsOnly p v ∧
      p.afterRemoval i older (p.offersUncounted i e data) (fun t => t.compareEntry i e data) =
        (v.compareEntry i e data).reportRemoval i ∧
      (e.counted = true ∨ p.drainDone = false → v = p) := by
  obtain ⟨h, -⟩ | ⟨⟨-, hshows, hdone⟩, hdrawn⟩ := afterRemoval_cases p i older (p.offersUncounted i e data)
    fun t => t.compareEntry i e data
  · exact ⟨p, .rfl p, h, fun _ => rfl⟩
  · have hnot : ¬(e.counted = true ∨ p.drainDone = false) := by
      rintro (hc | hd)
      · simp [State.offersUncounted, hc] at hshows
      · exact Bool.false_ne_true (hd.symm.trans hdone)
    have honly : ReportsOnly p p.drawn := Eq.refl _
    obtain h | h := hdrawn
    · exact ⟨p.drawn, honly, h, fun hn => absurd hn hnot⟩
    · exact ⟨p.drawn.settleDrain, honly.trans (settleDrain_only _), h, fun hn => absurd hn hnot⟩

end Sys2Proof.Machine
end

section
/-! PROOFS. A READ_DATA word that matches an entry, as one step of the whole part (O25). -/

namespace Sys2Proof.Machine

section
variable {s p v : State} {i : SiteNo} {e : Entry} {data : Half} {older newer : List Entry}

/-- The reports of a removal leave calibration and the tables. -/
theorem reportRemoval_calTables (t : State) (i : SiteNo) :
    (t.reportRemoval i).cal = t.cal ∧ (t.reportRemoval i).tables = t.tables := by
  have h := settleDrain_only (t.grantIfEmpty i)
  have k := grantIfEmpty_only t i
  exact ⟨h.cal.trans k.cal, h.tables.trans k.tables⟩

/-- The reports of a removal leave conditions and lanes. -/
theorem reportRemoval_conditionLane (t : State) (i k : SiteNo) :
    ((t.reportRemoval i).site k).condition = (t.site k).condition ∧ ((t.reportRemoval i).site k).lane = (t.site k).lane := by
  rw [State.site_reportRemoval]
  split
  · unfold Site.grantedIfEmpty
    split <;> exact ⟨rfl, rfl⟩
  · exact ⟨rfl, rfl⟩

/-- A compare that drops no site leaves calibration and the tables; one that drops its site hands the departure to calibration (R126). -/
theorem compareRemoval_departs {drops : Prop} (hdrops : (v.site i).fallsTo e data = true ↔ drops) (hcal : v.cal = s.cal)
    (htables : v.tables = s.tables) : Departs (fun j => j = i ∧ drops) s ((v.compareEntry i e data).reportRemoval i) := by
  obtain ⟨-, -, -, hmtables, hmcal, -⟩ := markedAt_keeps v i e data
  obtain ⟨hrcal, hrtables⟩ := reportRemoval_calTables (v.compareEntry i e data) i
  have heq := compareEntry_eq_marked v i e data
  by_cases hf : (v.site i).fallsTo e data = true
  · rw [if_pos hf] at heq
    have hflag := raiseFlag_only ((v.markedAt i e data).leaveDropped i .unrepairable) .siteDropped
    refine departs_of_drop (v := v.markedAt i e data) (c := .unrepairable) (hdrops.1 hf) (hmcal.trans hcal)
      (hmtables.trans htables) ?_ ?_ fun k => ?_
    · rw [hrcal, heq, hflag.cal]
    · rw [hrtables, heq, hflag.tables]
    · obtain ⟨hc, hl⟩ := reportRemoval_conditionLane (v.compareEntry i e data) i k
      rw [heq, State.raiseFlag_site] at hc hl
      rw [heq]
      exact ⟨hc, hl⟩
  · rw [if_neg hf] at heq
    refine departs_of_none (fun j hj _ => hf (hdrops.2 hj.2)) ?_ ?_
    · rw [hrcal, heq, hmcal, hcal]
    · rw [hrtables, heq, hmtables, htables]

/-- A compare draws nothing. -/
theorem compareEntry_draws (t : State) (i : SiteNo) (e : Entry) (data : Half) : (t.compareEntry i e data).draws = t.draws := by
  obtain ⟨-, -, hdraws, -⟩ := markedAt_keeps t i e data
  rw [compareEntry_eq_marked]
  split
  · rw [raiseFlag_draws, leaveDropped_draws, hdraws]
  · exact hdraws

/-- A compare up to its analysis leaves the pass. -/
theorem logged_pass (t : State) (i : SiteNo) (e : Entry) (data : Half) : (t.logged i e data).pass = t.pass := by
  unfold State.logged
  dsimp only
  split
  · exact (offerFail_keeps _ _).2.1
  · rfl

/-- A FAIL record byte by byte (R52, section 10.3). -/
theorem failFrame_bytes (s : State) (i : SiteNo) (e : Entry) (data : Half) :
    s.failFrame i e data = mkFrame 0x83 ([s.source, byteOf i.val, s.pass.number] ++ be16 e.tag ++ be32 e.ext ++
        [byteOf (e.region.val + (if e.mark then 64 else 0) + if e.counted then 128 else 0)] ++ be16 e.row ++
        be16 (e.col.setWidth 16) ++ be16 e.expected ++ be16 data ++ be16 ((data ^^^ e.expected) &&& e.mask)) := by
  have hmark : bitNat e.mark 6 = if e.mark then 64 else 0 := rfl
  have hcounted : bitNat e.counted 7 = if e.counted then 128 else 0 := rfl
  rw [State.failFrame, returnFrame, hmark, hcounted]
  rfl

/-- The part as the removals of a READ_DATA word leave it (R45, R46). -/
theorem popped_eq (s : State) (i : SiteNo) (older newer : List Entry) : s.popped i older newer = s.setSite i { s.site i with
    queue := newer
    counts := { (s.site i).counts with lost := satAdd (s.site i).counts.lost (countedIn older) }
    flags := { (s.site i).flags with coverageGap := (s.site i).flags.coverageGap || 0 < countedIn older } } := by
  rw [State.popped, State.onSite, losing_spec]

/-- A drop of a compare, and the reports that follow: SITE_DROPPED is set on the part as the drop leaves it, and the drain may end (R32, R69, R96). -/
theorem compareRemoval_of_drop (h : (p.site i).fallsTo e data = true) :
    (p.compareEntry i e data).reportRemoval i =
      (((p.markedAt i e data).leaveDropped i .unrepairable).raiseFlag .siteDropped).settleDrain := by
  have hsite : (((p.markedAt i e data).leaveDropped i .unrepairable).raiseFlag .siteDropped).site i =
      ((p.site i).marked e data).droppedBy .unrepairable ((p.markedAt i e data).runsAt i) := by
    rw [State.raiseFlag_site, State.site_leaveDropped, if_pos rfl, site_markedAt, if_pos rfl]
  obtain ⟨hkept, hnone⟩ := Site.grantedIfEmpty_droppedBy ((p.site i).marked e data) .unrepairable
    ((p.markedAt i e data).runsAt i)
  rw [State.reportRemoval, compareEntry_eq_marked, if_pos h, grantIfEmpty_eq, hsite, hkept, hnone, ← hsite, State.setSite_site,
    List.map_nil, List.append_nil]

end

/-- The site after a whole compare with its removals and reports, field by field (R28, R34, R45, R46, R50 to R52, R78, R126). -/
theorem Site.compareRemoval_eq (x : Site) (older newer : List Entry) (e : Entry) (data : Half) {run : Bool}
    {running drops granted : Prop} [Decidable running] [Decidable drops] [Decidable granted] (hrun : run = true ↔ running)
    (hdrops : (x.poppedTo older newer).fallsTo e data = true ↔ drops)
    (hgranted : granted ↔ x.hold = .pending ∧ (if drops then [] else newer) = []) :
    ((x.poppedTo older newer).afterCompare e data run).grantedIfEmpty = { x with
      condition := if drops then .dropped .unrepairable else x.condition
      queue := if drops then [] else newer
      hold := if granted then .granted else x.hold
      command := if granted ∨ drops then .park else x.command
      counts := { x.counts with
        compares := if e.counted then satAdd x.counts.compares 1 else x.counts.compares
        fails := if failBitsOf e data ≠ 0 ∧ e.counted then satAdd x.counts.fails 1 else x.counts.fails
        lost := satAdd x.counts.lost (countedIn older)
        ringWrites := if failBitsOf e data ≠ 0 then satAdd x.counts.ringWrites 1 else x.counts.ringWrites }
      flags := { x.flags with coverageGap := x.flags.coverageGap || 0 < countedIn older }
      ring := if failBitsOf e data ≠ 0 then
        (x.ring ++ [ringEntryOf e (failBitsOf e data)]).drop (x.ring.length + 1 - 8) else x.ring
      records := x.recordsAfter e data
      lane := if drops ∧ running then .online else x.lane } := by
  rw [Site.afterCompare_eq]
  by_cases hf : (x.poppedTo older newer).fallsTo e data = true
  · have hd : drops := hdrops.1 hf
    rw [if_pos hf, (Site.grantedIfEmpty_droppedBy _ _ _).1, Site.marked_poppedTo]
    by_cases hr : run = true
    · simp [Site.droppedBy, hd, hgranted, hr, hrun.1 hr]
    · simp [Site.droppedBy, hd, hgranted, hr, mt hrun.2 hr]
  · have hd : ¬drops := mt hdrops.2 hf
    rw [if_neg hf, Site.marked_poppedTo, Site.grantedIfEmpty]
    by_cases hg : x.hold = .pending ∧ newer = [] <;> simp [hd, hgranted, hg]

/-- Settles O25, by the compare from each of the states that the open orders leave it. -/
theorem matchedWordsAreCompared : Obligations.MatchedWordsAreCompared := by
  unfold Obligations.MatchedWordsAreCompared
  intro i data s head e older newer hq hhead hfar holder
  let p : State := s.begin.popped i older newer
  have hp : p.site i = (s.site i).poppedTo older newer := State.site_onSite_self ..
  have hother (j : SiteNo) (hj : j ≠ i) : p.site j = s.site j := State.site_onSite_ne _ _ hj
  have hread : s.begin.takeReadData i e.tag data =
      p.afterRemoval i older (p.offersUncounted i e data) fun t => t.compareEntry i e data :=
    State.takeReadData_of_match data hq hhead hfar holder
  have hlocal : Local s.begin (s.begin.takeReadData i e.tag data) := (takeReadData_event s.begin i e.tag data).toLocal
  obtain ⟨v, hv, hafter, hfirst⟩ := afterRemoval_compare p i older e data
  have hsites (j : SiteNo) : (s.begin.takeReadData i e.tag data).site j =
      if j = i then (((s.site i).poppedTo older newer).afterCompare e data (s.runsAt i)).grantedIfEmpty else s.site j := by
    have hruns : p.runsAt i = s.runsAt i := rfl
    rw [hread, State.site_compareRemoval, hruns]
    by_cases hj : j = i
    · rw [if_pos hj, if_pos hj, hj, hp]
    · rw [if_neg hj, if_neg hj, hother j hj]
  rw [← hread] at hafter
  refine ⟨s.begin.takeReadData i e.tag data, rfl, ?_⟩
  generalize s.begin.takeReadData i e.tag data = t at hread hlocal hafter hsites ⊢
  have hvout : v.out = {} := hv.out
  have hvsite : v.site i = (s.site i).poppedTo older newer := (hv.site i).trans hp
  have hkept : ((s.site i).poppedTo older newer).hold = (s.site i).hold ∧
      ((s.site i).poppedTo older newer).command = (s.site i).command := by
    rw [Site.poppedTo, losing_spec]
    exact ⟨rfl, rfl⟩
  intro x bits entry records drops left granted running
  have hfalls : ((s.site i).poppedTo older newer).fallsTo e data = true ↔ drops := Site.fallsTo_poppedTo ..
  refine ⟨?site, fun j hj => (hsites j).trans (if_neg hj), fun hdrop => ?drop, fun hcounted => ?draws, hlocal.link, hlocal.chainPos,
    hlocal.cause, hlocal.expander, ?responses, ?fifo, fun j hj => ?lanes, ?lane, ?departs, ?orders, failFrame_bytes s i e data,
    fun hstays hdraining => ?offer⟩
  case site =>
    rw [hsites i, if_pos rfl]
    exact Site.compareRemoval_eq (s.site i) older newer e data (s.runsAt_iff i) hfalls Iff.rfl
  case responses => rw [hlocal.ret]; rfl
  case fifo => rw [hlocal.ret]; rfl
  case lanes =>
    rw [hafter, compareRemoval_lane, if_neg hj, State.laneCommands, hvout]
    rfl
  case lane =>
    have hparks (g : Bool) : parkingCommands g ((s.site i).poppedTo older newer) = parkingCommands g x := by
      rw [parkingCommands, hkept.2]
      rfl
    rw [hafter, compareRemoval_lane, if_pos rfl, State.laneCommands, hvout, hvsite, hkept.1, hparks]
    by_cases hf : ((s.site i).poppedTo older newer).fallsTo e data = true
    · have hd : drops := hfalls.1 hf
      have hg : granted ↔ (s.site i).hold = .pending := by simp only [granted, left, if_pos hd, and_true, x]
      rw [if_pos hf, if_pos (.inr hd), decide_eq_decide.2 hg]
      rfl
    · have hd : ¬drops := mt hfalls.2 hf
      have hg : granted ↔ (s.site i).hold = .pending ∧ newer = [] := by simp only [granted, left, if_neg hd, x]
      have hgrant : ((s.site i).poppedTo older newer).emptyGrant = if granted then [.holdGrant, .park] else [] := by
        rw [Site.emptyGrant, hkept.1]
        exact if_congr hg.symm rfl rfl
      rw [if_neg hf, hgrant]
      by_cases hgranted : granted
      · rw [if_pos hgranted, if_pos (.inl hgranted), decide_eq_true hgranted]
        rfl
      · rw [if_neg hgranted, if_neg (not_or.2 ⟨hgranted, hd⟩)]
        rfl
  case departs =>
    rw [hafter]
    exact compareRemoval_departs (by rw [hvsite]; exact hfalls) hv.cal hv.tables
  case drop =>
    have hf : (p.site i).fallsTo e data = true := hp ▸ hfalls.2 hdrop
    have hcounted : e.counted = true := by
      simp only [Site.fallsTo, Bool.and_eq_true] at hf
      exact hf.1.2
    obtain ⟨hwpass, hwret, -⟩ := leaveDropped_keeps (p.markedAt i e data) i .unrepairable
    obtain ⟨-, hmpass, -, -, -, hmret, -⟩ := markedAt_keeps p i e data
    obtain ⟨hnone, hplaced, hmissed⟩ := logged_ret p i e data
    rw [hfirst (.inl hcounted), compareRemoval_of_drop hf] at hafter
    refine ⟨?_, _, hafter, hwpass.trans hmpass, ?_⟩
    · rw [hafter]
      exact settleDrain_flagsStay _ 2 (raiseFlag_sets _ .siteDropped)
    · rw [hwret, hmret]
      by_cases hoffers : failBitsOf e data ≠ 0 ∧ bitOf p.ret.rawLog i.val = true
      · by_cases hroom : p.reportRoom = true ∧ p.summariesWaiting = false
        · rw [(hplaced hoffers.1 hoffers.2 hroom.1 hroom.2).1]
          exact .inr rfl
        · have hfull : p.reportRoom = false ∨ p.summariesWaiting = true := by
            rw [not_and_or, Bool.not_eq_true, Bool.not_eq_false] at hroom
            exact hroom
          rw [(hmissed hoffers.1 hoffers.2 hfull).1]
          exact .inl rfl
      · rw [not_and_or, not_not, Bool.not_eq_true] at hoffers
        rw [(hnone hoffers).1]
        exact .inl rfl
  case draws =>
    rw [hafter, hfirst (.inl hcounted), reportRemoval_draws]
    exact compareEntry_draws p i e data
  case orders =>
    intro popped compared
    have hpopped : popped = p := (popped_eq s.begin i older newer).symm
    clear_value popped
    subst hpopped
    refine ⟨fun hcounted => ?_, fun huncounted => ?_⟩
    · rw [hafter, hfirst (.inl hcounted)]
      rfl
    · have hlogged (w : State) : w.compareEntry i e data = w.logged i e data := by
        rw [State.compareEntry_eq]
        exact if_neg fun h => Bool.false_ne_true (huncounted.symm.trans h.2)
      have hdraws (w : State) (hw : w.draws = s.draws) : ((w.logged i e data).reportRemoval i).draws = s.draws := by
        rw [reportRemoval_draws, ← hlogged, compareEntry_draws, hw]
      have hpdraws : p.draws = s.draws := rfl
      clear_value p
      simp only [compared, hlogged]
      rw [hread]
      obtain ⟨h, -⟩ | ⟨-, h | h⟩ := afterRemoval_cases p i older (p.offersUncounted i e data)
        fun t => t.compareEntry i e data <;> rw [h, hlogged]
      · exact .inl (redraw_self (hdraws p hpdraws))
      · refine .inl ?_
        rw [logged_drawn, reportRemoval_drawn, undraw (hdraws p hpdraws)]
        rfl
      · refine .inr ?_
        have hlast : (p.settleDrain.logged i e data).reportRemoval i = (p.settleDrain.logged i e data).grantIfEmpty i := by
          refine settleDrain_of_settled (s := p.settleDrain) ((grantIfEmpty_only _ i).pass.trans (logged_pass _ i e data))
            (fun j => ?_) (settleDrain_settles p)
          rw [grantIfEmpty_queue, State.site_logged]
          split <;> rfl
        rw [settleDrain_drawn, logged_drawn, reportRemoval_drawn, undraw (hdraws _ ((settleDrain_draws p).trans hpdraws)), hlast]
  case offer =>
    have hnotdone : p.drainDone = false := by
      have hpdrain : p.draining = false := hdraining
      rw [State.drainDone, hpdrain, Bool.false_and]
    have hf : ¬(p.site i).fallsTo e data = true := hp ▸ mt hfalls.1 hstays
    obtain ⟨-, hmpass, -, -, -, hmret, hmnotice⟩ := markedAt_keeps p i e data
    obtain ⟨hnone, hplaced, hmissed⟩ := logged_ret p i e data
    have hgrants := grantIfEmpty_only (p.markedAt i e data) i
    have ht : t = (p.markedAt i e data).grantIfEmpty i := by
      rw [hafter, hfirst (.inr hnotdone), compareEntry_eq_marked, if_neg hf, State.reportRemoval]
      refine settleDrain_of_not_draining _ ?_
      rw [State.draining, hgrants.pass, hmpass]
      exact hdraining
    have hret : t.ret = (p.logged i e data).ret := by rw [ht, hgrants.ret, hmret]
    have hnotice : t.notice = (p.logged i e data).notice := by rw [ht, hgrants.notice, hmnotice]
    rw [hret, hnotice]
    exact ⟨by rw [ht, hgrants.pass, hmpass]; rfl, hnone, hplaced, hmissed⟩

end Sys2Proof.Machine
end

section
/-! PROOFS. STATUS words (R38, R39), and the order in which SITE_DROPPED and the end of a drain are taken (R96, R100). -/

namespace Sys2Proof.Machine

/-- What a notice flag leaves of the pass, the report queue and the notices depends on these and on the chain position only (R166, R168). -/
theorem raiseFlag_reported {v w : State} (hpass : v.pass = w.pass) (hreports : v.ret.reports = w.ret.reports)
    (hnotice : v.notice = w.notice) (hchain : v.chainPos = w.chainPos) (f : NoticeFlag) :
    Reported (v.raiseFlag f) (w.raiseFlag f) := by
  have h : Alike { v with sites := w.sites } w := ⟨hpass, hreports, hnotice, hchain, fun _ => rfl⟩
  have hsites : Reported (v.raiseFlag f) (State.raiseFlag { v with sites := w.sites } f) := by
    simp only [State.raiseFlag, State.noticeDue, State.reportRoom, State.summariesWaiting, State.enqueueReport,
      State.noticeFrame, State.source, State.maskedFlags]
    split_ifs <;> exact ⟨rfl, rfl, rfl⟩
  obtain ⟨hp, hr, hn⟩ := (h.raiseFlag f).reported
  obtain ⟨hp', hr', hn'⟩ := hsites
  exact ⟨hp.trans hp', hr.trans hr', hn.trans hn'⟩

/-- SITE_DROPPED after discards: with counted entries among them the end of a drain is taken after the notice or before it, else the notice alone is set (R96, R100). -/
theorem raiseDropped_reported {v w : State} (h : Alike v w) (drains : Bool) :
    DropsReported (drains = true) v (w.raiseDropped drains) := by
  have hdrawn : Alike v w.drawn := ⟨h.pass, h.reports, h.notice, h.chainPos, h.sites⟩
  refine ⟨fun hd => ?_, fun hd => ?_⟩
  · rw [State.raiseDropped, hd, Bool.true_and]
    split
    · split
      · exact .inl (settleDrain_reported (hdrawn.raiseFlag .siteDropped))
      · exact .inr (hdrawn.settleDrain.raiseFlag .siteDropped).reported
    next hdone =>
      have hsettled : (w.raiseFlag .siteDropped).settleDrain = w.raiseFlag .siteDropped :=
        if_neg (by rw [raiseFlag_drainDone _ (Bool.eq_false_iff.2 hdone)]; exact Bool.false_ne_true)
      have hr := settleDrain_reported (h.raiseFlag .siteDropped)
      rw [hsettled] at hr
      exact .inl hr
  · have hnone : w.raiseDropped drains = w.raiseFlag .siteDropped := by
      rw [State.raiseDropped, Bool.eq_false_iff.2 hd, Bool.false_and, if_neg Bool.false_ne_true]
    rw [hnone]
    exact (h.raiseFlag .siteDropped).reported

/-- SITE_DROPPED is set, and no flag is cleared (R165). -/
theorem raiseDropped_flags (s : State) (drains : Bool) :
    bitOf (s.raiseDropped drains).notice.flags 2 = true ∧ FlagsStay s (s.raiseDropped drains) := by
  unfold State.raiseDropped
  split
  · split
    · exact ⟨settleDrain_flagsStay _ 2 (raiseFlag_sets _ .siteDropped), fun k hk =>
        settleDrain_flagsStay _ k (raiseFlag_flagsStay s.drawn .siteDropped k hk)⟩
    · exact ⟨raiseFlag_sets _ .siteDropped, fun k hk => raiseFlag_flagsStay _ .siteDropped k (settleDrain_flagsStay s.drawn k hk)⟩
  · exact ⟨raiseFlag_sets _ .siteDropped, raiseFlag_flagsStay s .siteDropped⟩

/-- SITE_DROPPED leaves the pass where no drain is in progress. -/
theorem raiseDropped_pass {s : State} (drains : Bool) (h : s.draining = false) : (s.raiseDropped drains).pass = s.pass := by
  have hdone : s.drainDone = false := by rw [State.drainDone, h, Bool.false_and]
  rw [State.raiseDropped, hdone, Bool.and_false, if_neg Bool.false_ne_true, State.raiseFlag_pass]

/-- The head status taken, in one equation: HEAD_CHANGE is set where the copy differs from the snapshot (R38). -/
theorem takeHeadStatus_eq (s : State) (i : SiteNo) (bits : Byte) :
    s.takeHeadStatus i bits =
      if bits = (s.site i).snapshot then s.onSite i fun x => x.headTaken bits
      else (s.onSite i fun x => x.headTaken bits).raiseFlag .headChange := by
  unfold State.takeHeadStatus
  dsimp only
  split
  next h => simp only [State.onSite, Site.headTaken, h, bne_self_eq_false, Bool.or_false]
  next h =>
    have hne : (bits != (s.site i).snapshot) = true := bne_iff_ne.2 h
    simp only [State.onSite, Site.headTaken, hne, Bool.or_true, State.setSite_setSite, State.site_setSite_self]

/-- The head status taken touches the site, the report queue and the notices only (R38). -/
theorem takeHeadStatus_only (s : State) (i : SiteNo) (bits : Byte) :
    ReportsOnly (s.onSite i fun x => x.headTaken bits) (s.takeHeadStatus i bits) := by
  rw [takeHeadStatus_eq]
  split
  · exact .rfl _
  · exact raiseFlag_only _ _

/-- What HEAD_FAULT does at a site that is ENABLED or DROPPED as UNREPAIRABLE, up to its reports: u is the part before it, w the part it leaves, `drains` whether it discards a counted entry (R39, R96, R126). -/
structure HeadFaults (s u : State) (i : SiteNo) (w : State) (drains : Bool) : Prop where
  done : u.headFaultDrop i = w.raiseDropped drains
  pass : w.pass = u.pass
  ret : w.ret = u.ret
  notice : w.notice = u.notice
  drains_iff : drains = true ↔ (s.site i).condition = .enabled ∧ countedIn (s.site i).queue ≠ 0
  lane : ∀ j, w.laneCommands j = u.laneCommands j ++
    if j = i ∧ (s.site i).condition = .enabled then parkingCommands (decide ((s.site i).hold = .pending)) (s.site i) else []
  departs : ∀ t : State, t.cal = w.cal → t.tables = w.tables → (∀ k, t.site k = w.site k) →
    Departs (fun j => j = i ∧ (s.site i).condition = .enabled) s t

/-- HEAD_FAULT acts on an ENABLED site or one DROPPED as UNREPAIRABLE (R39). -/
theorem headFaults {s u : State} {i : SiteNo} {bits : Byte} (hu : u.site i = (s.site i).headTaken bits) (hcal : u.cal = s.cal)
    (htables : u.tables = s.tables)
    (hcondition : (s.site i).condition = .enabled ∨ (s.site i).condition = .dropped .unrepairable) :
    ∃ w drains, HeadFaults s u i w drains := by
  obtain hc | hc := hcondition
  · have huc : (u.site i).condition = .enabled := by rw [hu]; exact hc
    refine ⟨u.leaveDropped i .headFault, countedIn (u.site i).queue != 0, ?_, (leaveDropped_keeps u i _).1,
      (leaveDropped_keeps u i _).2.1, (leaveDropped_keeps u i _).2.2, ?_, fun j => ?_, fun t htcal httables hsites => ?_⟩
    · rw [State.headFaultDrop, huc]
      rfl
    · rw [bne_iff_ne, hu]
      simp only [hc, true_and]
      rfl
    · rw [(leaveDropped_sends u i _).lane j, hu]
      simp only [hc, and_true]
      rfl
    · exact departs_of_drop hc hcal htables htcal httables fun k => by rw [hsites k]; exact ⟨rfl, rfl⟩
  · have huc : (u.site i).condition = .dropped .unrepairable := by rw [hu]; exact hc
    have hnot : (s.site i).condition ≠ .enabled := by rw [hc]; exact nofun
    refine ⟨u.setCondition i (.dropped .headFault), false, ?_, rfl, rfl, rfl, ?_, fun j => ?_, fun t htcal httables _ => ?_⟩
    · rw [State.headFaultDrop, huc]
      rfl
    · simp only [hnot, false_and, Bool.false_eq_true]
    · rw [if_neg fun h => hnot h.2, List.append_nil]
      rfl
    · exact departs_of_none (fun j hj _ => hnot hj.2) (htcal.trans hcal) (httables.trans htables)

/-- A site after a STATUS word with HEAD_FAULT that changes its condition, field by field (R28, R38, R39, R126). -/
theorem Site.headFaulted_headTaken {x : Site} {bits : Byte} {run : Bool} {running : Prop} [Decidable running]
    (hrun : run = true ↔ running) (h : x.condition = .enabled ∨ x.condition = .dropped .unrepairable) :
    (x.headTaken bits).headFaulted run = { x with
      condition := .dropped .headFault
      current := bits
      changed := x.changed || bits != x.snapshot
      queue := if x.condition = .enabled then [] else x.queue
      hold := if x.condition = .enabled ∧ x.hold = .pending then .granted else x.hold
      command := if x.condition = .enabled then .park else x.command
      lane := if x.condition = .enabled ∧ running then .online else x.lane } := by
  obtain h | h := h <;> simp [Site.headFaulted, Site.headTaken, Site.droppedBy, h, hrun]

/-- Settles O21, by the head status taken, then HEAD_FAULT with its reports. -/
theorem statusWordsAndHeadFaults : Obligations.StatusWordsAndHeadFaults := by
  unfold Obligations.StatusWordsAndHeadFaults
  refine ⟨fun i bits s => ?_, fun i bits s hfault => ?_⟩
  · intro x h
    have hstatus : s.begin.takeStatus i bits = s.begin.takeHeadStatus i bits := by
      have hcond : ((s.begin.takeHeadStatus i bits).site i).condition = x.condition := by
        rw [State.site_takeHeadStatus, if_pos rfl]
        rfl
      unfold State.takeStatus
      dsimp only
      split
      next hf =>
        obtain h | h | h := h
        · exact absurd (h.symm.trans hf) Bool.false_ne_true
        all_goals rw [State.headFaultDrop, hcond, h]
      next => rfl
    have hexec : exec (.statusWord i bits) s = .next (s.begin.takeHeadStatus i bits) := congrArg Host.Outcome.next hstatus
    rw [takeHeadStatus_eq] at hexec
    refine ⟨fun hsame => ?_, fun hnew => ?_⟩
    · rw [hexec, State.begin_site, if_pos hsame]
      have htaken : (s.site i).headTaken bits = { x with current := bits } := by
        rw [Site.headTaken, hsame, bne_self_eq_false, Bool.or_false]
      rw [State.onSite, State.begin_site, htaken]
    · rw [hexec, State.begin_site, if_neg hnew]
      have htaken : (s.site i).headTaken bits = { x with current := bits, changed := true } := by
        rw [Site.headTaken, bne_iff_ne.2 hnew, Bool.or_true]
      rw [State.onSite, State.begin_site, htaken]
  · intro x hcondition
    have honly := takeHeadStatus_only s.begin i bits
    have hsite (j : SiteNo) := State.site_takeStatus s.begin i j bits
    have hlocal : Local s.begin (s.begin.takeStatus i bits) := (takeStatus_event s.begin i bits).toLocal
    have hu : (s.begin.takeHeadStatus i bits).site i = x.headTaken bits := by
      rw [State.site_takeHeadStatus, if_pos rfl]
      rfl
    have heq : s.begin.takeHeadStatus i bits =
        if bits = x.snapshot then s.begin.onSite i fun x => x.headTaken bits
        else (s.begin.onSite i fun x => x.headTaken bits).raiseFlag .headChange := takeHeadStatus_eq s.begin i bits
    have hstatus : s.begin.takeStatus i bits = (s.begin.takeHeadStatus i bits).headFaultDrop i := if_pos hfault
    generalize s.begin.takeHeadStatus i bits = u at honly hu heq hstatus
    obtain ⟨w, drains, hw⟩ := headFaults hu honly.cal honly.tables hcondition
    rw [hw.done] at hstatus
    have hexec : exec (.statusWord i bits) s = .next (w.raiseDropped drains) := congrArg Host.Outcome.next hstatus
    rw [hstatus] at hsite hlocal
    have hreports := raiseDropped_only w drains
    obtain ⟨hdropped, hstay⟩ := raiseDropped_flags w drains
    have hwpass : w.pass = s.pass := hw.pass.trans (by rw [heq]; split <;> simp)
    have hwret : w.ret = { s.ret with reports := w.ret.reports } := by rw [hw.ret, honly.ret]; rfl
    have hsites (k : SiteNo) : (w.raiseDropped drains).site k = w.site k := hreports.site k
    have hlane (j : SiteNo) : (w.raiseDropped drains).laneCommands j =
        if j = i ∧ x.condition = .enabled then parkingCommands (decide (x.hold = .pending)) x else [] := by
      rw [laneCommands_congr hreports.out j, hw.lane j, laneCommands_congr honly.out j]
      rfl
    refine ⟨_, hexec, ?_⟩
    beta_reduce
    intro running
    refine ⟨?site, fun j hj => ⟨(hsite j).trans (if_neg hj), (hlane j).trans (if_neg fun h => hj h.1)⟩, hdropped,
      fun hnew => hstay 1 ?change, ?lane, hlocal.link, hlocal.chainPos, hlocal.cause, hlocal.expander, ?ret, ?mask,
      hw.departs _ hreports.cal hreports.tables hsites, fun hdraining => ?pass, ?reports⟩
    case site =>
      have hrun : s.runsAt i = true ↔ running := s.runsAt_iff i
      rw [hsite i, if_pos rfl, headFault, if_pos hfault]
      exact Site.headFaulted_headTaken hrun hcondition
    case change =>
      rw [hw.notice, heq, if_neg hnew]
      exact raiseFlag_sets _ .headChange
    case lane =>
      rw [hlane i]
      exact if_congr (and_iff_right rfl) rfl rfl
    case ret => rw [hreports.ret, hwret]
    case mask => rw [hlocal.notice]; rfl
    case pass =>
      rw [raiseDropped_pass drains (by rw [State.draining, hwpass]; exact hdraining), hwpass]
    case reports =>
      intro v
      have htaken : Alike (if bits = x.snapshot then v else v.raiseFlag .headChange) w := by
        have hchain : w.chainPos = s.chainPos := hreports.chainPos.symm.trans hlocal.chainPos
        by_cases hsame : bits = x.snapshot
        · rw [if_pos hsame] at heq ⊢
          exact ⟨hwpass.symm, by rw [hw.ret, heq]; rfl, by rw [hw.notice, heq]; rfl, hreports.chainPos,
            fun k => by rw [beforeReport_site, hsites k]⟩
        · rw [if_neg hsame] at heq ⊢
          obtain ⟨-, hr, hn⟩ := raiseFlag_reported (v := v) (w := s.begin.onSite i fun x => x.headTaken bits) rfl rfl rfl
            (hreports.chainPos.trans hchain) .headChange
          refine ⟨by rw [State.raiseFlag_pass, hwpass]; rfl, by rw [hw.ret, heq, hr], by rw [hw.notice, heq, hn],
            (raiseFlag_only v _).chainPos.trans hreports.chainPos, fun k => ?_⟩
          rw [State.raiseFlag_site, beforeReport_site, hsites k]
      have hd : (drains = true) = (x.condition = .enabled ∧ countedIn x.queue ≠ 0) := propext hw.drains_iff
      have hr := raiseDropped_reported htaken drains
      rw [hd] at hr
      exact hr

end Sys2Proof.Machine
end

section
/-! PROOFS. SET SITES over the sixteen sites: conditions, discards and grants, the departure that reaches a run, SITE_DROPPED and the end of a drain, and the conditions reported (R28 to R31, R96, R126, section 10.6). -/

namespace Sys2Proof.Machine

/-- A two-bit code read back from the byte that packs four (section 10.6). -/
theorem packed_code (code : Nat → Nat) (h : ∀ j, code j < 4) {j : Nat} (hj : j < 4) :
    (byteOf ([0, 1, 2, 3].foldl (fun n j => n + code j * 4 ^ j) 0)).toNat / 4 ^ j % 4 = code j := by
  have h0 := h 0
  have h1 := h 1
  have h2 := h 2
  have h3 := h 3
  have hbyte : (byteOf ([0, 1, 2, 3].foldl (fun n j => n + code j * 4 ^ j) 0)).toNat =
      code 0 + code 1 * 4 + code 2 * 16 + code 3 * 64 := by
    rw [byteOf, BitVec.toNat_ofNat, Nat.mod_eq_of_lt] <;> simp only [List.foldl_cons, List.foldl_nil] <;> omega
  rw [hbyte]
  interval_cases j <;> omega

/-- The conditions that SET SITES reports, site by site (R29, section 10.6). -/
theorem conditionData_code (s : State) (i : SiteNo) :
    (s.conditionData.getD (i.val / 4) 0).toNat / 4 ^ (i.val % 4) % 4 = (s.site i).condition.code := by
  have hcode (k : Condition) : k.code < 4 := by
    rw [Condition.code_eq]
    split <;> decide
  have hbyte (b : Nat) (hb : b < 4) : s.conditionData.getD b 0 = byteOf ([0, 1, 2, 3].foldl
      (fun n j => n + (s.site (Fin.ofNat 16 (4 * b + j))).condition.code * 4 ^ j) 0) := by
    interval_cases b <;> rfl
  have hi : Fin.ofNat 16 (4 * (i.val / 4) + i.val % 4) = i := by
    rw [Nat.div_add_mod]
    exact Fin.ext (Nat.mod_eq_of_lt i.isLt)
  rw [hbyte (i.val / 4) (by omega),
    packed_code (fun j => (s.site (Fin.ofNat 16 (4 * (i.val / 4) + j))).condition.code) (fun j => hcode _)
      (Nat.mod_lt _ (by decide)), hi]

section
variable (s : State) (enable drop : Half)

/-- SET SITES up to its reports leaves pass, return side, notices and chain position. -/
theorem departed_keeps : (s.departed enable drop).pass = s.pass ∧ (s.departed enable drop).ret = s.ret ∧
    (s.departed enable drop).notice = s.notice ∧ (s.departed enable drop).chainPos = s.chainPos := by
  have hv := vacated_only s enable drop
  have hd := departures_only (s.leaves enable) (s.vacated enable drop)
  exact ⟨hd.pass.trans hv.pass, hd.ret.trans hv.ret, hd.notice.trans hv.notice, hd.chainPos.trans hv.chainPos⟩

/-- The reports of SET SITES leave what reports leave (R96, R98). -/
theorem applySites_only : ReportsOnly (s.departed enable drop) (s.applySites enable drop) := by
  rw [State.applySites_eq]
  split
  · exact raiseDropped_only _ _
  · split
    · exact settleDrain_only _
    · exact .rfl _

/-- The conditions set by SET SITES leave hold, lane command and queue. -/
theorem Site.setSite_keeps (x : Site) (inPass on d : Bool) :
    (x.setSite inPass on d).hold = x.hold ∧ (x.setSite inPass on d).command = x.command := by
  unfold Site.setSite
  dsimp only
  split
  · split <;> exact ⟨rfl, rfl⟩
  · exact ⟨rfl, rfl⟩
  · exact ⟨rfl, rfl⟩
  · split <;> exact ⟨rfl, rfl⟩

/-- The drop settings and conditions of SET SITES, before what a departure does besides (R29 to R31). -/
def State.conditioned : State :=
  forSites (fun i t => t.onSite i fun x => x.setSite s.inPass (bitOf enable i.val) (bitOf drop i.val)) s

/-- The conditions of SET SITES put nothing on a lane. -/
theorem conditioned_out : (s.conditioned enable drop).out = s.out :=
  forSites_eq (op := fun i t => t.onSite i fun x => x.setSite s.inPass (bitOf enable i.val) (bitOf drop i.val)) State.out
    (fun i t => State.onSite_out t i _) s

/-- A site after the conditions of SET SITES (R29 to R31). -/
theorem site_conditioned (i : SiteNo) :
    (s.conditioned enable drop).site i = (s.site i).setSite s.inPass (bitOf enable i.val) (bitOf drop i.val) :=
  forSites_site (f := fun i x => x.setSite s.inPass (bitOf enable i.val) (bitOf drop i.val)) (keep := fun _ => True)
    (fun _ _ _ => trivial) (fun i t k _ => State.site_onSite t i k _) trivial i

/-- What SET SITES puts on each lane: that of a site that leaves ENABLED parks (R24, R25, R28). -/
theorem applySites_lane (i : SiteNo) : (s.applySites enable drop).laneCommands i = s.laneCommands i ++
    if s.leaves enable i then parkingCommands (decide ((s.site i).hold = .pending)) (s.site i) else [] := by
  have hvacated : (s.vacated enable drop).laneCommands i = (s.conditioned enable drop).laneCommands i ++
      if s.leaves enable i then parkingCommands (decide (((s.conditioned enable drop).site i).hold = .pending))
        ((s.conditioned enable drop).site i) else [] := by
    refine forSites_lane (s := s.conditioned enable drop)
      (given := fun i x => if s.leaves enable i then parkingCommands (decide (x.hold = .pending)) x else [])
      (keep := fun _ => True) (fun _ _ _ => trivial) (fun i t _ => ?_) (fun i t j hj => ?_) trivial i
    · by_cases h : s.leaves enable i = true
      · rw [if_pos h, if_pos h]
        exact vacate_sends t i
      · rw [if_neg h, if_neg h]
        exact .nothing rfl i
    · split
      · rw [site_vacate, if_neg hj]
      · rfl
  obtain ⟨hhold, hcommand⟩ := (s.site i).setSite_keeps s.inPass (bitOf enable i.val) (bitOf drop i.val)
  have hparks (g : Bool) : parkingCommands g ((s.site i).setSite s.inPass (bitOf enable i.val) (bitOf drop i.val)) =
      parkingCommands g (s.site i) := by
    rw [parkingCommands, hcommand]
    rfl
  rw [laneCommands_congr (applySites_only s enable drop).out i, State.departed,
    laneCommands_congr (departures_only (s.leaves enable) (s.vacated enable drop)).out i, hvacated,
    laneCommands_congr (conditioned_out s enable drop) i, site_conditioned, hhold, hparks]

/-- SET SITES leaves of calibration what the departures of the sites that leave ENABLED say (R126, R128). -/
theorem applySites_departs {t : State} (hcal : t.cal = (s.departed enable drop).cal)
    (htables : t.tables = (s.departed enable drop).tables) (hsites : ∀ k, t.site k = (s.departed enable drop).site k) :
    Departs (fun i => s.leaves enable i = true) s t := by
  have hv := vacated_only s enable drop
  have hruns (i : SiteNo) : (s.vacated enable drop).runsAt i = s.runsAt i := by rw [State.runsAt, hv.cal, State.runsAt]
  by_cases h : ∃ i, s.leaves enable i = true ∧ s.runsAt i = true
  · obtain ⟨i, hi, hrun⟩ := h
    have hdeparted : s.departed enable drop = (s.vacated enable drop).departure i :=
      departures_of_run hi ((hruns i).trans hrun) fun k hk => by rw [State.vacated_condition drop hk]; exact nofun
    rw [hdeparted] at hcal htables hsites
    exact departs_of_departure hv.cal hv.tables hi hrun hcal htables fun k => by rw [hsites k]; exact ⟨rfl, rfl⟩
  · have hdeparted : s.departed enable drop = s.vacated enable drop :=
      departures_of_none fun i hi => Bool.eq_false_iff.2 fun hr => h ⟨i, hi, (hruns i).symm.trans hr⟩
    rw [hdeparted] at hcal htables
    exact departs_of_none (fun i hi hon => h ⟨i, hi, (s.runsAt_iff i).2 hon⟩) (hcal.trans hv.cal) (htables.trans hv.tables)

/-- A site after SET SITES, field by field (R28 to R31, R126). -/
theorem site_applySites_fields (i : SiteNo) {left running inPass : Prop} [Decidable left] [Decidable running]
    [Decidable inPass] (hleft : left ↔ bitOf enable i.val = false ∧ (s.site i).condition = .enabled)
    (hrun : s.runsAt i = true ↔ running) (hpass : s.inPass = true ↔ inPass) :
    (s.applySites enable drop).site i = { s.site i with
      dropOn := bitOf drop i.val
      condition :=
        if bitOf enable i.val then (if (s.site i).condition = .disabled then
          (if (s.site i).current.getLsbD 2 then .dropped .headFault else .enabled) else (s.site i).condition)
        else .disabled
      flags := { (s.site i).flags with
        coverageGap := (s.site i).flags.coverageGap ||
          (decide (bitOf enable i.val = false ∧ (s.site i).condition ≠ .disabled ∧ inPass)) }
      queue := if left then [] else (s.site i).queue
      hold := if left ∧ (s.site i).hold = .pending then .granted else (s.site i).hold
      command := if left then .park else (s.site i).command
      lane := if left ∧ running then .online else (s.site i).lane } := by
  have hleaves : s.leaves enable i = true ↔ left := by
    rw [State.leaves, Bool.and_eq_true, beq_iff_eq, Bool.not_eq_true', hleft, and_comm]
  rw [State.site_applySites, State.site_departed]
  generalize s.site i = x at hleft ⊢
  have hleave : s.leaves enable i = decide left := Bool.eq_iff_iff.2 (hleaves.trans (decide_eq_true_iff).symm)
  have hruns : s.runsAt i = decide running := Bool.eq_iff_iff.2 (hrun.trans (decide_eq_true_iff).symm)
  have hin : s.inPass = decide inPass := Bool.eq_iff_iff.2 (hpass.trans (decide_eq_true_iff).symm)
  simp only [hleave, hruns, hin, decide_eq_true_eq]
  generalize bitOf enable i.val = on at hleft ⊢
  cases hcond : x.condition with
  | disabled =>
    have hl : ¬left := fun h => by simpa [hcond] using (hleft.1 h).2
    cases on <;> by_cases hf : x.current[2] = true <;> simp [Site.setSite, headFault, hcond, hl, hf]
  | enabled =>
    cases on with
    | true =>
      have hl : ¬left := fun h => Bool.false_ne_true (hleft.1 h).1.symm
      simp [Site.setSite, hcond, hl]
    | false =>
      have hl : left := hleft.2 ⟨rfl, hcond⟩
      by_cases hi : inPass <;> simp [Site.setSite, hcond, hl, hi]
  | dropped cause =>
    have hl : ¬left := fun h => by simpa [hcond] using (hleft.1 h).2
    cases on <;> by_cases hi : inPass <;> simp [Site.setSite, hcond, hl, hi]

end

/-- What reports leave is what they leave of a part that another response was added to. -/
theorem Reported.answer {v t : State} (h : Reported v t) (c : Ctl) (code : Byte) (st : Status) (data : List Byte) :
    Reported v (t.answer c code st data) := h

/-- Settles O22, by the sites, the lanes, the departures and the reports of SET SITES in turn. -/
theorem setSitesMovesConditions : Obligations.SetSitesMovesConditions := by
  unfold Obligations.SetSitesMovesConditions
  intro s c enable drop rest h u running inPass
  have hexec : exec (.setSites c enable drop rest) s = .next (u.reqSetSites c enable drop) :=
    exec_of_executes (run := fun t => t.reqSetSites c enable drop) rfl h
  clear_value u
  have hpass : u.inPass = true ↔ inPass := by simp [State.inPass, inPass]
  have honly := applySites_only u enable drop
  obtain ⟨hdpass, hdret, hdnotice, hdchain⟩ := departed_keeps u enable drop
  have hlocal := (applySites_event u enable drop).toLocal
  have hleaves (i : SiteNo) : u.leaves enable i = true ↔ enable.getLsbD i.val = false ∧ (u.site i).condition = .enabled := by
    rw [State.leaves, Bool.and_eq_true, beq_iff_eq, Bool.not_eq_true', and_comm]
    rfl
  have hfaults : allSites.any (u.faults enable) = true ↔ ∃ i : SiteNo,
      enable.getLsbD i.val = true ∧ (u.site i).condition = .disabled ∧ (u.site i).current.getLsbD 2 = true := by
    simp only [List.any_eq_true, State.faults, Bool.and_eq_true, beq_iff_eq, mem_allSites, true_and, bitOf, headFault]
    exact exists_congr fun i => ⟨fun ⟨⟨h1, h2⟩, h3⟩ => ⟨h2, h1, h3⟩, fun ⟨h2, h1, h3⟩ => ⟨⟨h1, h2⟩, h3⟩⟩
  have hdiscards : u.discards enable = true ↔ ∃ i : SiteNo,
      enable.getLsbD i.val = false ∧ (u.site i).condition = .enabled ∧ countedIn (u.site i).queue ≠ 0 := by
    simp only [State.discards, List.any_eq_true, Bool.and_eq_true, bne_iff_ne, mem_allSites, true_and, hleaves, and_assoc]
  refine ⟨_, hexec, ?_⟩
  beta_reduce
  refine ⟨fun i => ?site, fun hfaulting => ?flag, ⟨(u.applySites enable drop).conditionData, ?answer, rfl, fun i => ?codes⟩,
    hlocal.link, hlocal.chainPos, hlocal.cause, hlocal.expander, ?ret, fun i => ?lane, ?departs, fun hdraining => ?pass, ?reports⟩
  case site =>
    exact site_applySites_fields u enable drop i Iff.rfl (u.runsAt_iff i) hpass
  case flag =>
    have hraised : u.applySites enable drop = (u.departed enable drop).raiseDropped (u.discards enable) := by
      rw [State.applySites_eq, if_pos (hfaults.2 hfaulting)]
    show bitOf (u.applySites enable drop).notice.flags 2 = true
    rw [hraised]
    exact (raiseDropped_flags _ _).1
  case answer =>
    show (u.applySites enable drop).ret.responses ++ [(u.applySites enable drop).responseFrame c 0x20 .accepted false _] = _
    rw [honly.responses, hdret, State.responseFrame_eq, if_neg Bool.false_ne_true]
    exact congrArg (fun f => u.ret.responses ++ [f]) (State.responseBytes_congr (honly.chainPos.trans hdchain) c 0x20 0 _)
  case codes => exact conditionData_code (u.applySites enable drop) i
  case ret =>
    show { (u.applySites enable drop).ret with reports := [], responses := [] } = { u.ret with reports := [], responses := [] }
    rw [honly.ret, hdret]
  case lane =>
    refine (applySites_lane u enable drop i).trans (congrArg (u.laneCommands i ++ ·) ?_)
    exact if_congr (hleaves i) rfl rfl
  case departs =>
    have hd := applySites_departs u enable drop (t := u.reqSetSites c enable drop) honly.cal honly.tables honly.site
    simp only [hleaves] at hd
    exact hd
  case pass =>
    show (u.applySites enable drop).pass = u.pass
    have hdone : (u.departed enable drop).draining = false := by
      rw [State.draining, hdpass]
      exact hdraining
    rw [State.applySites_eq]
    split
    · rw [raiseDropped_pass _ hdone, hdpass]
    · split
      · rw [settleDrain_of_not_draining _ hdone, hdpass]
      · exact hdpass
  case reports =>
    intro faulting drains v
    have halike : Alike v (u.departed enable drop) :=
      ⟨hdpass.symm, by rw [hdret]; rfl, hdnotice.symm, honly.chainPos, fun k => by
        have hk : v.site k = (u.departed enable drop).site k := honly.site k
        rw [hk]⟩
    have hdrains : (u.discards enable = true) = drains := propext hdiscards
    refine ⟨fun hfaulting => ?_, fun hnot hd => ?_, fun hnot hnone => ?_⟩
    · have hr := raiseDropped_reported halike (u.discards enable)
      rw [hdrains] at hr
      have hraised : u.applySites enable drop = (u.departed enable drop).raiseDropped (u.discards enable) := by
        rw [State.applySites_eq, if_pos (hfaults.2 hfaulting)]
      rw [← hraised] at hr
      exact hr
    · have hsettled : u.applySites enable drop = (u.departed enable drop).settleDrain := by
        rw [State.applySites_eq, if_neg (mt hfaults.1 hnot), if_pos (hdiscards.2 hd)]
      have hr := settleDrain_reported halike
      rw [← hsettled] at hr
      exact hr
    · have hkept : u.applySites enable drop = u.departed enable drop := by
        rw [State.applySites_eq, if_neg (mt hfaults.1 hnot)]
        split
        next hd =>
          refine settleDrain_of_not_draining _ ?_
          rw [State.draining, hdpass]
          exact hnone.resolve_right (not_not.2 (hdiscards.1 hd))
        next => rfl
      show (u.applySites enable drop).notice = u.notice ∧ (u.applySites enable drop).pass = u.pass ∧
        (u.applySites enable drop).ret.reports = u.ret.reports
      rw [hkept]
      exact ⟨hdnotice, hdpass, by rw [hdret]⟩

end Sys2Proof.Machine
end

section
/-! PROOFS. A slot that is no expanded CYCLE: its expiry tests with their grants and reports, then a NOP on every lane whose port is not parked (R23, R34, R48, R55, R96). -/

namespace Sys2Proof.Machine

/-- Whether some entry expires, over the sites (R48). -/
theorem anyExpired_iff (s : State) : s.anyExpired = true ↔ ∃ i, s.expiredAt i ≠ [] := by
  simp only [State.anyExpired, List.any_eq_true, bne_iff_ne, mem_allSites, true_and]

/-- A queue's run of expired entries is not empty exactly when its head is past the limit (R48). -/
theorem expiredAt_ne_nil_iff (s : State) (i : SiteNo) :
    s.expiredAt i ≠ [] ↔ (s.site i).queue.head?.any (·.past (s.expiryLimit i)) = true := by
  rw [State.expiredAt]
  cases (s.site i).queue with
  | nil => simp
  | cons e rest => by_cases h : e.past (s.expiryLimit i) = true <;> simp [h]

/-- The expiry tests of a slot put on the outputs what each site's test puts on its lane, in site order (R34, R48). -/
theorem expireAll_out (s : State) : s.expireAll.out = { s.out with
    commands := s.out.commands ++
      allSites.flatMap fun i => ((s.site i).expiryGrant (s.expiryLimit i)).map fun c => (i, c) } := by
  unfold State.expireAll
  split
  · rw [State.settleDrain_out]
    refine forSites_sends (given := fun i x => x.expiryGrant (s.expiryLimit i)) (keep := fun t => t.tables = s.tables)
      (fun i t h => (expireSite_only t i).tables.trans h) (fun i t h => ?_) (fun i t j hj => ?_) rfl
    · have hlimit : t.expiryLimit i = s.expiryLimit i := by rw [State.expiryLimit, State.trim, h]; rfl
      rw [← hlimit]
      exact expireSite_sends t i
    · rw [State.site_expireSite, if_neg hj]
  next h =>
    have hnone (i : SiteNo) : (s.site i).expiryGrant (s.expiryLimit i) = [] :=
      if_neg fun hg => h ((anyExpired_iff s).2 ⟨i, hg.1⟩)
    simp only [hnone, List.map_nil, List.flatMap_eq_nil_iff.2 fun _ _ => rfl, List.append_nil]

/-- The NOP of a slot at one port: none where it is parked (R23, R24). -/
def State.slotNop (i : SiteNo) (s : State) : State := if s.parked i then s else s.send i .nop

/-- What the NOP of a slot puts on a lane (R23). -/
theorem slotNop_sends {s t : State} (i : SiteNo) (h : t.link = s.link) :
    Sends i (if portParked (s.link.state == .live) (t.site i) then [] else [.nop]) t (t.slotNop i) := by
  have hp : t.parked i = portParked (s.link.state == .live) (t.site i) := by rw [State.parked, portParked, h]; rfl
  rw [State.slotNop, hp]
  split
  · exact .nothing rfl i
  · exact rfl

/-- The NOP of a slot at one port leaves the link and the other sites. -/
theorem slotNop_keeps (i : SiteNo) (t : State) : (t.slotNop i).link = t.link ∧ ∀ j, j ≠ i → (t.slotNop i).site j = t.site j := by
  unfold State.slotNop
  split
  · exact ⟨rfl, fun _ _ => rfl⟩
  · exact ⟨rfl, fun j hj => by rw [State.site_send, if_neg hj]⟩

/-- The NOPs of a slot, in site order, on every lane whose port is not parked (R23). -/
theorem slotNops_out (s : State) : s.slotNops.out = { s.out with
    commands := s.out.commands ++ (allSites.filter fun i => !s.parked i).map fun i => (i, SiteCommand.nop) } := by
  have hgiven := forSites_sends (s := s) (op := fun i t => t.slotNop i)
    (given := fun _ x => if portParked (s.link.state == .live) x then [] else [.nop])
    (keep := fun t => t.link = s.link) (fun i t h => (slotNop_keeps i t).1.trans h) (fun i t h => slotNop_sends i h)
    (fun i t => (slotNop_keeps i t).2) rfl
  have hnops : (allSites.flatMap fun i => (if portParked (s.link.state == .live) (s.site i) then [] else [SiteCommand.nop]).map
      fun c => (i, c)) = (allSites.filter fun i => !s.parked i).map fun i => (i, SiteCommand.nop) := by
    induction allSites with
    | nil => rfl
    | cons i l ih =>
      rw [List.flatMap_cons, ih, List.filter_cons]
      have hp : s.parked i = portParked (s.link.state == .live) (s.site i) := rfl
      cases h : portParked (s.link.state == .live) (s.site i) <;> simp [hp, h]
  rw [← hnops]
  exact hgiven

/-- The lane of a site after the NOPs of a slot (R23). -/
theorem slotNops_lane (s : State) (i : SiteNo) :
    s.slotNops.laneCommands i = s.laneCommands i ++ if s.parked i then [] else [.nop] :=
  forSites_lane (s := s) (op := fun i t => t.slotNop i)
    (given := fun _ x => if portParked (s.link.state == .live) x then [] else [.nop])
    (keep := fun t => t.link = s.link) (fun i t h => (slotNop_keeps i t).1.trans h) (fun i _ h => slotNop_sends i h)
    (fun i _ => (slotNop_keeps i _).2) rfl i

/-- The lane of a site after the expiry tests of a slot (R34, R48). -/
theorem expireAll_lane (s : State) (i : SiteNo) :
    s.expireAll.laneCommands i = s.laneCommands i ++ (s.site i).expiryGrant (s.expiryLimit i) := by
  rw [laneCommands_append (congrArg Output.commands (expireAll_out s)) i,
    lane_of_all fun i => (s.site i).expiryGrant (s.expiryLimit i)]

/-- A grant of an expiry is one that the hold before and after shows (R34). -/
theorem Site.expiryGrant_eq (x : Site) (limit : Nat) :
    x.expiryGrant limit = if x.hold = .pending ∧ (x.expired limit).hold = .granted then [.holdGrant, .park] else [] := by
  unfold Site.expiryGrant Site.expired Site.grantedIfEmpty
  dsimp only
  by_cases hgone : x.queue.takeWhile (·.past limit) = []
  · rw [if_pos hgone, if_neg fun h => h.1 hgone, if_neg fun h => by rw [h.1] at h; exact nomatch h.2]
  · rw [if_neg hgone]
    simp only [losing_spec, ne_eq, hgone, not_false_eq_true, true_and]
    by_cases hp : x.hold = .pending
    · by_cases hl : x.queue.drop (x.queue.takeWhile (·.past limit)).length = []
      · simp only [hp, hl, and_self, if_true]
      · simp only [hp, hl, and_false, if_false, false_and, reduceCtorEq]
    · simp only [hp, and_false, if_false, false_and]

/-- What the expiry tests of a slot leave besides the sites and the reports they give rise to (R48, R55). -/
theorem expireAll_draws (s : State) : s.expireAll.draws = s.draws := by
  unfold State.expireAll
  split
  · rw [settleDrain_draws, (expireSites_only s).draws]
  · rfl

/-- The reports of the expiry tests: where an entry expires, those that the end of a drain leaves; where no drain is in progress or none expires, none (R55, R96). -/
theorem expireAll_reports (s : State) :
    (s.anyExpired = true → s.expireAll = s.expireSites.settleDrain) ∧
    (s.draining = false ∨ s.anyExpired = false →
      s.expireAll.pass = s.pass ∧ s.expireAll.ret = s.ret ∧ s.expireAll.notice = s.notice) := by
  have honly := expireSites_only s
  refine ⟨fun h => if_pos h, fun h => ?_⟩
  unfold State.expireAll
  split
  next hany =>
    have hdrain : s.expireSites.draining = false := by
      rw [State.draining, honly.pass]
      exact h.resolve_right (by rw [hany]; exact nofun)
    rw [settleDrain_of_not_draining _ hdrain]
    exact ⟨honly.pass, honly.ret, honly.notice⟩
  · exact ⟨rfl, rfl, rfl⟩

/-- Settles O14, by the expiry tests and then the NOPs of the slot. -/
theorem slotAgesExpiresAndSendsNops : Obligations.SlotAgesExpiresAndSendsNops := by
  unfold Obligations.SlotAgesExpiresAndSendsNops
  intro s f a u live
  let v : State := State.ageAll { s.begin.forward f a with link := s.link.count a }
  have hu : u = v.expireAll.slotNops := rfl
  have hvsite (i : SiteNo) : v.site i = { s.site i with queue := ageQueue (s.site i).queue } := State.ageAll_site _ i
  have hvlane (i : SiteNo) : v.laneCommands i = [] := rfl
  have hsites (i : SiteNo) : u.site i = slotSite live ((s.trim i).latency + 8) (s.site i) :=
    State.site_slot { s.begin.forward f a with link := s.link.count a } i
  obtain ⟨w, hw, hr⟩ := v.expireAll_changes
  have hn := slotNops_only v.expireAll
  have hlink : v.expireAll.link = s.link.count a := hr.link.trans hw.link
  have hparked (i : SiteNo) : v.expireAll.parked i = portParked live (u.site i) := by
    have hi : u.site i = if v.expireAll.parked i then v.expireAll.site i else { v.expireAll.site i with command := .nop } := by
      rw [hu, State.site_slotNops]
    have hp : v.expireAll.parked i = portParked live (v.expireAll.site i) := by
      rw [State.parked, portParked, hlink]
      rfl
    rw [hp, hi]
    split <;> rfl
  have hhold (i : SiteNo) : (u.site i).hold = ((v.site i).expired (v.expiryLimit i)).hold := by
    rw [hu, State.site_slotNops, State.site_expireAll]
    split <;> rfl
  have hcommands : u.out = { v.expireAll.out with
      commands := v.expireAll.out.commands ++ (allSites.filter fun i => !portParked live (u.site i)).map fun i => (i, .nop) } := by
    rw [hu, slotNops_out]
    simp only [hparked]
    rfl
  have hexpired (i : SiteNo) : v.expiredAt i ≠ [] ↔
      (ageQueue (s.site i).queue).head?.any (·.past ((s.trim i).latency + 8)) = true := by
    rw [expiredAt_ne_nil_iff, hvsite]
    rfl
  have hout := expireAll_out v
  have hret := hr.ret
  have hnotice := hr.notice
  rw [hw.ret] at hret
  rw [hw.notice] at hnotice
  obtain ⟨hsome, hnone⟩ := expireAll_reports v
  have hdraws : v.expireAll.draws = s.draws := expireAll_draws v
  have hnumber : v.expireAll.pass.number = s.pass.number := hr.number.trans (congrArg Pass.number hw.pass)
  have hvout : v.out = { down := some (s.outgoing f a), up := none, commands := [] } := rfl
  have hvkeeps : v.pass = s.pass ∧ v.ret = s.ret ∧ v.notice = s.notice ∧ v.chainPos = s.chainPos := ⟨rfl, rfl, rfl, rfl⟩
  obtain ⟨hvpass, hvret, hvnotice, hvchain⟩ := hvkeeps
  have hvrest : v.cause = s.cause ∧ v.revision = s.revision ∧ v.tables = s.tables ∧ v.expander = s.expander ∧ v.cal = s.cal ∧
      v.pending = s.pending := ⟨rfl, rfl, rfl, rfl, rfl, rfl⟩
  obtain ⟨hvcause, hvrevision, hvtables, hvexpander, hvcal, hvpending⟩ := hvrest
  rw [← hu] at hn
  clear_value u v
  refine ⟨hn.link.trans hlink, ?down, ?up, hn.chainPos.trans (hr.chainPos.trans (hw.chainPos.trans hvchain)),
    hn.cause.trans (hr.cause.trans (hw.cause.trans hvcause)), hn.revision.trans (hr.revision.trans (hw.revision.trans hvrevision)),
    hn.tables.trans (hr.tables.trans (hw.tables.trans hvtables)),
    hn.expander.trans (hr.expander.trans (hw.expander.trans hvexpander)), hn.cal.trans (hr.cal.trans (hw.cal.trans hvcal)),
    hn.draws.trans hdraws, hn.pending.trans (hr.pending.trans (hw.pending.trans hvpending)),
    (congrArg Pass.number hn.pass).trans hnumber, ?mask, ?loss, ?ret, hsites, fun i => ?lane, ?commands, ?reports⟩
  case down => rw [hcommands, hout, hvout]
  case up => rw [hcommands, hout, hvout]
  case mask => rw [hn.notice, hnotice, hvnotice]
  case loss => rw [hn.notice, hnotice, hvnotice]
  case ret => rw [hn.ret, hret, hvret]
  case lane =>
    have hlane : u.laneCommands i = v.expireAll.laneCommands i ++ if v.expireAll.parked i then [] else [.nop] := by
      rw [hu]
      exact slotNops_lane v.expireAll i
    intro granted
    rw [hlane, expireAll_lane, hvlane, Site.expiryGrant_eq, ← hhold i, hparked i]
    have hpending : (v.site i).hold = (s.site i).hold := by rw [hvsite]
    rw [hpending]
    by_cases hg : granted
    · have hpark : portParked live (u.site i) = true := by simp [portParked, hg.2]
      rw [if_pos hg, if_pos hg, if_pos hpark]
      rfl
    · rw [if_neg hg, if_neg hg]
      rfl
  case commands =>
    refine ⟨v.expireAll.out.commands, fun x hx => ?_, by rw [hcommands]⟩
    rw [hout, hvout] at hx
    obtain ⟨i, -, hi⟩ := List.mem_flatMap.1 hx
    obtain ⟨c, hc, rfl⟩ := List.mem_map.1 hi
    rw [Site.expiryGrant_eq] at hc
    split at hc
    · simpa using hc
    · exact absurd hc List.not_mem_nil
  case reports =>
    intro expires
    have hany : v.anyExpired = true ↔ ∃ i, expires i = true := by
      rw [anyExpired_iff]
      exact exists_congr hexpired
    clear_value expires
    refine ⟨fun hexpires => ?_, fun h => ?_⟩
    · have hsettled := hsome (hany.2 hexpires)
      have honly := expireSites_only v
      have halike : Alike (beforeReport s u) v.expireSites := by
        refine ⟨(honly.pass.trans hvpass).symm, ?_, (honly.notice.trans hvnotice).symm, ?_, fun i => ?_⟩
        · rw [honly.ret, hvret]
          rfl
        · exact hn.chainPos.trans (hr.chainPos.trans (hw.chainPos.trans honly.chainPos.symm))
        · rw [beforeReport_site, hu, State.site_slotNops, hsettled, State.settleDrain_site]
          generalize v.expireSites.site i = x
          split <;> rfl
      obtain ⟨hp, hrep, hnot⟩ := settleDrain_reported halike
      rw [← hsettled] at hp hrep hnot
      exact ⟨hn.pass.trans hp, (congrArg Merger.reports hn.ret).trans hrep, hn.notice.trans hnot⟩
    · have hno : v.draining = false ∨ v.anyExpired = false := by
        refine h.imp (fun hd => ?_) fun hnot => ?_
        · rw [State.draining, hvpass]
          exact hd
        · refine Bool.eq_false_iff.2 fun hyes => ?_
          obtain ⟨i, hi⟩ := hany.1 hyes
          exact Bool.false_ne_true ((hnot i).symm.trans hi)
      obtain ⟨hp, hre, hno⟩ := hnone hno
      exact ⟨hn.pass.trans (hp.trans hvpass), hn.ret.trans (hre.trans hvret), hn.notice.trans (hno.trans hvnotice)⟩

end Sys2Proof.Machine
end

section
/-! PROOFS. Link loss: the flush with its grants and reports, the ports parked, and the three ways in which it comes (R53, R55, R96, R138, R139, R149). -/

namespace Sys2Proof.Machine

section
variable (s : State)

/-- A link loss up to its reports: begun, every queue flushed, PENDING holds granted where entries were (R34, R53, R138). -/
def State.emptied : State :=
  forSites (fun i t => if (s.site i).queue = [] then t else t.grantIfEmpty i)
    (s.lossBegun.onSites fun x => x.flushed (s.pass.state == .opened))

/-- Whether a link loss flushes any entry (R55). -/
def State.holdsEntries : Bool := allSites.any fun i => (s.site i).queue != []

/-- A link loss: the flush, its reports, then every port parked (R53, R55, R138). -/
theorem linkLoss_eq : s.linkLoss =
    forSites (fun i t => t.parkPort i) (if s.holdsEntries then s.emptied.settleDrain else s.emptied) := rfl

/-- The flush of a link loss touches the sites and the outputs only. -/
theorem emptied_only : SitesOnly s.lossBegun s.emptied :=
  SitesOnly.trans (Eq.refl _ : SitesOnly s.lossBegun (s.lossBegun.onSites fun x => x.flushed (s.pass.state == .opened)))
    (forSites_only (fun i t => by
      show SitesOnly t (if (s.site i).queue = [] then t else t.grantIfEmpty i)
      split
      · exact .rfl t
      · exact grantIfEmpty_only t i) _)

/-- What the flush leaves of a site: everything but PARK, and that too where a hold is granted (R34, R53). -/
theorem site_emptied (i : SiteNo) : s.emptied.site i = { lostSite (s.pass.state == .opened) (s.site i) with
    command := if (s.site i).hold = .pending ∧ (s.site i).queue ≠ [] then .park else (s.site i).command } := by
  have hgranted : s.emptied.site i =
      if (s.site i).queue = [] then (s.site i).flushed (s.pass.state == .opened)
      else ((s.site i).flushed (s.pass.state == .opened)).grantedIfEmpty := by
    have h := forSites_site (s := s.lossBegun.onSites fun x => x.flushed (s.pass.state == .opened))
      (op := fun i t => if (s.site i).queue = [] then t else t.grantIfEmpty i)
      (f := fun i x => if (s.site i).queue = [] then x else x.grantedIfEmpty) (keep := fun _ => True)
      (fun _ _ _ => trivial) (fun i t k _ => ?_) trivial i
    · rw [State.site_onSites] at h
      exact h
    · split
      · split <;> rfl
      · exact State.site_grantIfEmpty_eq t i k
  rw [hgranted]
  unfold Site.flushed lostSite Site.grantedIfEmpty
  rw [losing_spec]
  generalize (s.pass.state == .opened) = opened
  generalize s.site i = x
  by_cases hq : x.queue = []
  · simp only [hq, if_true, not_true, and_false, ne_eq, if_false]
    cases opened <;> by_cases hc : x.condition = .enabled <;> simp [hc, countedIn]
  · by_cases hh : x.hold = .pending
    · cases opened <;> by_cases hc : x.condition = .enabled <;> simp [hc, hq, hh]
    · cases opened <;> by_cases hc : x.condition = .enabled <;> simp [hc, hq, hh]

/-- What the flush puts on the lane of a site (R25, R34). -/
theorem emptied_lane (i : SiteNo) : s.emptied.laneCommands i = s.laneCommands i ++
    if (s.site i).hold = .pending ∧ (s.site i).queue ≠ [] then [.holdGrant, .park] else [] := by
  have hlane := forSites_lane (s := s.lossBegun.onSites fun x => x.flushed (s.pass.state == .opened))
    (op := fun i t => if (s.site i).queue = [] then t else t.grantIfEmpty i)
    (given := fun i x => if (s.site i).queue = [] then [] else x.emptyGrant) (keep := fun _ => True)
    (fun _ _ _ => trivial) (fun i t _ => ?_) (fun i t j hj => ?_) trivial i
  · have hflushed : ((s.site i).flushed (s.pass.state == .opened)).hold = (s.site i).hold ∧
        ((s.site i).flushed (s.pass.state == .opened)).queue = [] := by
      rw [Site.flushed, losing_spec]
      split <;> exact ⟨rfl, rfl⟩
    have hgrant : (if (s.site i).queue = [] then [] else ((s.site i).flushed (s.pass.state == .opened)).emptyGrant) =
        if (s.site i).hold = .pending ∧ (s.site i).queue ≠ [] then [.holdGrant, .park] else [] := by
      rw [Site.emptyGrant, hflushed.1, hflushed.2]
      by_cases hq : (s.site i).queue = [] <;> simp [hq]
    rw [State.site_onSites] at hlane
    rw [← hgrant]
    exact hlane
  · split
    · exact .nothing rfl i
    · exact grantIfEmpty_sends t i
  · split
    · rfl
    · rw [State.site_grantIfEmpty_eq, if_neg hj]

/-- What a link loss puts on the lane of a site (R24, R25, R34). -/
theorem linkLoss_lane (i : SiteNo) : s.linkLoss.laneCommands i = s.laneCommands i ++
    parkingCommands (decide ((s.site i).hold = .pending ∧ (s.site i).queue ≠ [])) (s.site i) := by
  have hsettled : (if s.holdsEntries then s.emptied.settleDrain else s.emptied).out = s.emptied.out ∧
      (if s.holdsEntries then s.emptied.settleDrain else s.emptied).site i = s.emptied.site i := by
    split
    · exact ⟨State.settleDrain_out _, State.settleDrain_site _ i⟩
    · exact ⟨rfl, rfl⟩
  rw [linkLoss_eq, forSites_lane (op := fun i t => t.parkPort i)
    (given := fun _ x => if x.command = .park then [] else [.park]) (keep := fun _ => True) (fun _ _ _ => trivial)
    (fun i t _ => parkPort_sends t i) (fun i t j hj => by rw [site_parkPort, if_neg hj]) trivial i,
    laneCommands_congr hsettled.1, hsettled.2, emptied_lane, site_emptied, parkingCommands, List.append_assoc]
  by_cases hg : (s.site i).hold = .pending ∧ (s.site i).queue ≠ []
  · simp only [if_pos hg, decide_eq_true hg, if_true, List.append_nil]
  · simp only [if_neg hg, decide_eq_false hg, Bool.false_eq_true, if_false, List.nil_append]

/-- The ports parked at the end of a link loss touch the sites and the outputs only (R24). -/
theorem linkLoss_parks :
    SitesOnly (if s.holdsEntries then s.emptied.settleDrain else s.emptied) s.linkLoss :=
  forSites_only (fun i t => parkPort_only t i) _

end

/-- What a link loss leaves of a site depends on its queue only by how many counted entries it holds and whether it is empty (R34, R53). -/
theorem lostSite_congr (opened : Bool) {x y : Site} (hxy : y = { x with queue := y.queue }) (hempty : y.queue = [] ↔ x.queue = [])
    (hcount : countedIn y.queue = countedIn x.queue) : lostSite opened y = lostSite opened x := by
  generalize y.queue = q at hxy hempty hcount
  subst hxy
  simp only [lostSite, hcount, ne_eq, hempty]

/-- A link loss does what `Loses` says, to a part whose entries the slot of the loss has aged or not (R44, R53, R138). -/
theorem loses_linkLoss {s v w : State} {l : LinkRx} (hw : v.linkLoss = w) (hv : SitesOnly { s with link := v.link } v)
    (hl : l = { s.link with
      state := l.state, signal := l.signal, candidate := none, position := none, missRun := 0, errorRun := 0 }) (hcommands : v.out.commands = s.out.commands)
    (hsite : ∀ i, v.site i = { s.site i with queue := (v.site i).queue } ∧
      ((v.site i).queue = [] ↔ (s.site i).queue = []) ∧ countedIn (v.site i).queue = countedIn (s.site i).queue) :
    Loses s { w with link := l } := by
  have hkept (i : SiteNo) : (v.site i).hold = (s.site i).hold ∧ (v.site i).command = (s.site i).command :=
    ⟨by rw [(hsite i).1], by rw [(hsite i).1]⟩
  have hlost (i : SiteNo) : lostSite (v.pass.state == .opened) (v.site i) = lostSite (s.pass.state == .opened) (s.site i) := by
    obtain ⟨hx, hempty, hcount⟩ := hsite i
    rw [hv.pass, lostSite_congr _ hx hempty hcount]
  have hparks := linkLoss_parks v
  rw [hw] at hparks
  have hempties := emptied_only v
  have hreports : ReportsOnly v.emptied (if v.holdsEntries then v.emptied.settleDrain else v.emptied) := by
    split
    · exact settleDrain_only _
    · exact .rfl _
  have hdraws : (if v.holdsEntries then v.emptied.settleDrain else v.emptied).draws = v.emptied.draws := by
    split
    · exact settleDrain_draws _
    · rfl
  have hnotice := hreports.notice
  have hret := hreports.ret
  rw [hempties.notice] at hnotice
  rw [hempties.ret] at hret
  have hlane (i : SiteNo) : w.laneCommands i = s.laneCommands i ++
      parkingCommands (decide ((s.site i).hold = .pending ∧ (s.site i).queue ≠ [])) (s.site i) := by
    have hbefore : v.laneCommands i = s.laneCommands i := by rw [State.laneCommands, hcommands]; rfl
    rw [← hw, linkLoss_lane, hbefore, (hkept i).1, parkingCommands, (hkept i).2]
    simp only [ne_eq, (hsite i).2.1]
    rfl
  have hheld : v.holdsEntries = true ↔ ∃ i, (s.site i).queue ≠ [] := by
    simp only [State.holdsEntries, List.any_eq_true, bne_iff_ne, mem_allSites, true_and]
    exact exists_congr fun i => not_congr (hsite i).2.1
  have hbegun : v.lossBegun.pass = s.pass ∧ v.lossBegun.ret = s.ret ∧
      v.lossBegun.notice = { s.notice with lossOutstanding := true } := by
    refine ⟨hv.pass, hv.ret, ?_⟩
    show { v.notice with lossOutstanding := true } = { s.notice with lossOutstanding := true }
    rw [hv.notice]
  obtain ⟨hbpass, hbret, hbnotice⟩ := hbegun
  rw [hbnotice] at hnotice
  rw [hbret] at hret
  have hlossOf (i : SiteNo) : w.site i = lostSite (v.pass.state == .opened) (v.site i) := by rw [← hw, v.site_linkLoss]
  clear hw
  refine ⟨fun i => (hlossOf i).trans (hlost i), ?k, ?lastCount, ?candidate, ?position, ?missRun, ?errorRun, ?checkErrors, ?unknownKinds,
    ?exerciseErrors, ?crst, ?syqIn, ?outstanding, ?mask,
    hparks.chainPos.trans (hreports.chainPos.trans (hempties.chainPos.trans hv.chainPos)),
    hparks.cause.trans (hreports.cause.trans (hempties.cause.trans hv.cause)),
    hparks.revision.trans (hreports.revision.trans (hempties.revision.trans hv.revision)),
    hparks.tables.trans (hreports.tables.trans (hempties.tables.trans hv.tables)),
    hparks.expander.trans (hreports.expander.trans (hempties.expander.trans hv.expander)),
    hparks.cal.trans (hreports.cal.trans (hempties.cal.trans hv.cal)),
    hparks.draws.trans (hdraws.trans (hempties.draws.trans hv.draws)),
    hparks.pending.trans (hreports.pending.trans (hempties.pending.trans hv.pending)), ?number, ?ret, hlane, fun hdraining => ?same,
    ?reports⟩
  case k | lastCount | candidate | position | missRun | errorRun | checkErrors | unknownKinds | exerciseErrors | crst | syqIn =>
    dsimp only
    rw [hl]
  case outstanding => rw [hparks.notice, hnotice]
  case mask => rw [hparks.notice, hnotice]
  case number => rw [hparks.pass, hreports.number, hempties.pass, hbpass]
  case ret => rw [hparks.ret, hret]
  case same =>
    have hdone : v.emptied.draining = false := by
      rw [State.draining, hempties.pass, hbpass]
      exact hdraining
    have hnone : (if v.holdsEntries then v.emptied.settleDrain else v.emptied) = v.emptied := by
      split
      · exact settleDrain_of_not_draining _ hdone
      · rfl
    rw [hnone] at hparks
    exact ⟨hparks.pass.trans (hempties.pass.trans hbpass), hparks.ret.trans (hempties.ret.trans hbret),
      hparks.notice.trans (hempties.notice.trans hbnotice)⟩
  case reports =>
    intro flushed
    have halike : Alike flushed v.emptied := by
      refine ⟨(hempties.pass.trans hbpass).symm, ?_, (hempties.notice.trans hbnotice).symm,
        hparks.chainPos.trans hreports.chainPos, fun i => ?_⟩
      · rw [hempties.ret, hbret]
        rfl
      · have hi : flushed.site i = lostSite (v.pass.state == .opened) (v.site i) := hlossOf i
        rw [hi, site_emptied]
    refine ⟨fun hsome => ?_, fun hnone => ?_⟩
    · obtain ⟨hp, hr, hn⟩ := settleDrain_reported halike
      rw [if_pos (hheld.2 hsome)] at hparks
      exact ⟨hparks.pass.trans hp, (congrArg Merger.reports hparks.ret).trans hr, hparks.notice.trans hn⟩
    · have hno : ¬v.holdsEntries = true := fun hyes => by
        obtain ⟨i, hi⟩ := hheld.1 hyes
        exact hi (hnone i)
      obtain ⟨hp, hr, hn⟩ := halike.reported
      rw [if_neg hno] at hparks
      exact ⟨hparks.pass.trans hp, (congrArg Merger.reports hparks.ret).trans hr, hparks.notice.trans hn⟩

/-- The link after a link loss, as `Loses` asks for it (R138). -/
theorem linkLoss_lost (v : State) : v.linkLoss.link = { v.link with
    state := v.linkLoss.link.state, signal := v.linkLoss.link.signal, candidate := none, position := none, missRun := 0
    errorRun := 0 } := by
  rw [v.linkLoss_link]

/-- A link loss as the part stands, or as the slot of the loss has aged it (R138). -/
theorem loses_linkLoss_aged {s v : State} (hv : SitesOnly { s with link := v.link } v) (hlink : v.link = { s.link with
      state := v.link.state, signal := v.link.signal, candidate := v.link.candidate, position := v.link.position
      missRun := v.link.missRun, errorRun := v.link.errorRun }) (hcommands : v.out.commands = s.out.commands)
    (hsite : ∀ i, v.site i = { s.site i with queue := (v.site i).queue } ∧
      ((v.site i).queue = [] ↔ (s.site i).queue = []) ∧ countedIn (v.site i).queue = countedIn (s.site i).queue) :
    Loses s v.linkLoss := by
  have hl := linkLoss_lost v
  obtain ⟨w, hw⟩ : ∃ w, v.linkLoss = w := ⟨_, rfl⟩
  rw [hw, hlink] at hl
  rw [hw]
  exact loses_linkLoss (l := w.link) hw hv hl hcommands hsite

/-- The loss of the signal in LIVE: a link loss, then DOWN (R139). -/
theorem signalLost_of_live {s : State} (h : s.link.state = .live) :
    s.signalLost = { State.linkLoss { s with link := { s.link with signal := false } } with
      link := { s.link with
        state := .down, signal := false, candidate := none, position := none, missRun := 0, errorRun := 0 } } := by
  unfold State.signalLost
  rw [h]
  dsimp only
  rw [State.linkLoss_link]

/-- Settles O9, by the one effect of link loss in the three ways in which it comes. -/
theorem linkLossEffects : Obligations.LinkLossEffects := by
  unfold Obligations.LinkLossEffects
  refine ⟨fun s hlive => ?_, fun s c params h htarget => ?_, fun f s hf hlive hdue => ?_⟩
  · have hloses : Loses s.begin s.begin.signalLost := by
      rw [signalLost_of_live (s := s.begin) hlive]
      exact loses_linkLoss rfl (Eq.refl _) rfl rfl fun _ => ⟨rfl, Iff.rfl, rfl⟩
    refine ⟨s.begin.signalLost, rfl, hloses, ?_⟩
    rw [signalLost_of_live (s := s.begin) hlive]
    exact ⟨rfl, rfl⟩
  · intro u
    have hexec : exec (.resync c params) s = .next (u.reqResync c) :=
      exec_of_executes (run := fun t => t.reqResync c) rfl h
    have hlink : u.link = s.link.count (.control (ctlTarget c) 0x02) := s.slotOf_link _ _
    have hlive : u.link.state = .live := by
      simp only [State.executes, State.actsOn, Bool.and_eq_true, beq_iff_eq] at h
      rw [hlink]
      exact h.1.1.1
    have hsignal : u.link.signal = s.link.signal := by rw [hlink]; rfl
    clear_value u
    rw [State.reqResync, if_neg htarget, State.answer_eq, hlive] at hexec
    refine ⟨_, hexec, loses_linkLoss_aged (.rfl _) rfl rfl fun _ => ⟨rfl, Iff.rfl, rfl⟩, ?_, ?_⟩
    · rw [State.linkLoss_link]
    · rw [State.linkLoss_link]
      exact hsignal
  · obtain ⟨act, -, hexec⟩ := takesFrame_decodeFrame hf
    let w : State := { s.begin.forward f (arrivalOf f) with link := s.link.count (arrivalOf f) }
    have hloss : s.begin.takeFrame f (arrivalOf f) act = w.ageAll.linkLoss := takeFrame_loss s.begin f _ act hlive hdue
    have hsite (i : SiteNo) : w.ageAll.site i = { s.site i with queue := ageQueue (s.site i).queue } := State.ageAll_site w i
    have hdown : w.ageAll.linkLoss.out.down = some (s.outgoing f (arrivalOf f)) := State.linkLoss_sent w.ageAll
    rw [hexec s, hloss]
    refine ⟨_, rfl, loses_linkLoss_aged (v := w.ageAll) (Eq.refl _) rfl rfl fun i => ?_, ?_, ?_, hdown⟩
    · rw [hsite i]
      exact ⟨rfl, ageQueue_eq_nil _, countedIn_ageQueue _⟩
    · rw [State.linkLoss_link]
    · rw [State.linkLoss_link]
      rfl

end Sys2Proof.Machine
end

section
/-! PROOFS. The slot of an expanded CYCLE frame: its numbering, its expansion at each port and the order of its expiry tests (R14 to R16, R20 to R22). -/

namespace Sys2Proof.Machine

/-- A site as the tracking of a cycle number leaves it (R16). -/
def Site.gapMarked (gap : Bool) (x : Site) : Site :=
  { x with flags := { x.flags with coverageGap := x.flags.coverageGap || gap && x.condition == .enabled } }

/-- A site after a cycle number was tracked: COVERAGE_GAP where the frame leaves a gap in OPEN and the site is ENABLED (R16). -/
theorem State.site_trackCycle (s : State) (n : Half) (i : SiteNo) :
    (s.trackCycle n).site i = (s.site i).gapMarked (s.expander.gapAt n && s.pass.state == .opened) := by
  unfold State.trackCycle Site.gapMarked
  dsimp only
  cases s.expander.gapAt n && s.pass.state == .opened with
  | false => simp only [Bool.false_eq_true, if_false, Bool.false_and, Bool.or_false]; rfl
  | true =>
    rw [if_pos rfl, State.site_onSites]
    by_cases h : (s.site i).condition = .enabled
    · rw [if_pos (by exact h), beq_iff_eq.2 h, Bool.and_true, Bool.or_true]; rfl
    · rw [if_neg (by exact h), beq_eq_false_iff_ne.2 h, Bool.and_false, Bool.or_false]; rfl

/-- The tracking of a cycle number moves the numbering and touches the sites besides (R15, R16). -/
theorem trackCycle_only (s : State) (n : Half) :
    SitesOnly { s with expander := s.expander.track n } (s.trackCycle n) := by
  unfold State.trackCycle
  dsimp only
  split
  · exact Eq.refl _
  · exact .rfl _

/-- The expansion of a CYCLE frame moves the numbering and touches the sites and the outputs besides (R14). -/
theorem expand_only (s : State) (c : Cycle) :
    SitesOnly { s with expander := s.expander.track c.number } (s.expand c) :=
  (trackCycle_only s c.number).trans (issueWhere_only _ c _)

/-- The expiry tests of a slot, and their absence, leave the numbering and the link. -/
theorem expireAll_expander (s : State) : s.expireAll.expander = s.expander ∧ s.expireAll.link = s.link := by
  obtain ⟨w, hw, hr⟩ := s.expireAll_changes
  exact ⟨hr.expander.trans hw.expander, hr.link.trans hw.link⟩

/-- The numbering, the link and the draws after the slot of an expanded CYCLE frame, whatever expires in it: 32 draws where the order shows (R15, R16, R22). -/
theorem cycleSlot_keeps (s : State) (c : Cycle) :
    (s.cycleSlot c).expander = s.expander.track c.number ∧ (s.cycleSlot c).link = s.link ∧
    (s.cycleSlot c).draws = if s.orderMatters c then s.draws + 32 else s.draws := by
  unfold State.cycleSlot
  split
  · obtain ⟨before, hbefore⟩ : ∃ p : SiteNo → Bool, (fun i : SiteNo => s.drawAt i.val) = p := ⟨_, rfl⟩
    obtain ⟨between, hbetween⟩ : ∃ p : SiteNo → Bool, (fun i : SiteNo => s.drawAt (16 + i.val)) = p := ⟨_, rfl⟩
    rw [hbefore, hbetween]
    unfold State.cycleInOrder
    have htrack := trackCycle_only (s.drawnBy 32) c.number
    have hfirst := issueWhere_only ((s.drawnBy 32).trackCycle c.number) c before
    have hexpire := expireSites_only (((s.drawnBy 32).trackCycle c.number).issueWhere c before)
    have hmid := issueWhere_only (((s.drawnBy 32).trackCycle c.number).issueWhere c before).expireSites c
      fun i => !before i && between i
    have hsites := ((htrack.trans hfirst).trans hexpire).trans hmid
    have hsettle := settleDrain_only ((((s.drawnBy 32).trackCycle c.number).issueWhere c before).expireSites.issueWhere c
      fun i => !before i && between i)
    have hlast := issueWhere_only ((((s.drawnBy 32).trackCycle c.number).issueWhere c before).expireSites.issueWhere c
      fun i => !before i && between i).settleDrain c fun i => !before i && !between i
    refine ⟨hlast.expander.trans (hsettle.expander.trans hsites.expander),
      hlast.link.trans (hsettle.link.trans hsites.link), ?_⟩
    dsimp only
    rw [hlast.draws, settleDrain_draws, hsites.draws]
    rfl
  · obtain ⟨hexpander, hlink⟩ := expireAll_expander s
    have h := expand_only s.expireAll c
    exact ⟨h.expander.trans (by dsimp only; rw [hexpander]), h.link.trans hlink, h.draws.trans (expireAll_draws s)⟩

/-- With no entry past its limit no expiry test acts, and no order shows (R22, R48). -/
theorem cycleSlot_of_none_past {s : State} (c : Cycle)
    (h : ∀ i, ∀ e ∈ (s.site i).queue, e.past (s.expiryLimit i) = false) :
    s.cycleSlot c = s.expand c ∧ s.orderMatters c = false := by
  have hnone (i : SiteNo) : s.expiredAt i = [] := by
    by_contra hne
    rw [← ne_eq, expiredAt_ne_nil_iff] at hne
    cases hq : (s.site i).queue with
    | nil => rw [hq] at hne; exact nomatch hne
    | cons e rest =>
      rw [hq] at hne
      have hpast : e.past (s.expiryLimit i) = true := hne
      rw [h i e (hq ▸ List.mem_cons_self)] at hpast
      exact nomatch hpast
  have hany : s.anyExpired = false := by
    rw [Bool.eq_false_iff]
    intro hany
    obtain ⟨i, hi⟩ := (anyExpired_iff s).1 hany
    exact hi (hnone i)
  have horder : s.orderMatters c = false := by
    unfold State.orderMatters
    rw [hany, Bool.and_false, Bool.false_or, List.any_eq_false]
    intro i _
    simp [State.orderMattersAt, hnone i]
  refine ⟨?_, horder⟩
  rw [State.cycleSlot, horder, State.expireAll, hany]
  rfl

/-- The commands of an expanded frame, in site order, at the ports that are not parked (R20, R24). -/
theorem issueWhere_all_out (s : State) (c : Cycle) : (s.issueWhere c fun _ => true).out = { s.out with
    commands := s.out.commands ++ (allSites.filter fun i => !portParked true (s.site i)).map
      fun i => (i, (s.issuedSite c i (s.site i)).command) } := by
  have hgiven := forSites_sends (s := s) (op := fun i t => if true then t.issue c i else t)
    (given := fun i x => if portParked true x then [] else [(s.issuedSite c i x).command])
    (keep := fun t => t.pass = s.pass ∧ t.tables = s.tables ∧ t.expander = s.expander) (fun i t h => ?keep) (fun i t h => ?sends)
    (fun i t j hj => ?other) ⟨rfl, rfl, rfl⟩
  case keep =>
    have hi := issue_only t c i
    exact ⟨hi.pass.trans h.1, hi.tables.trans h.2.1, hi.expander.trans h.2.2⟩
  case sends =>
    obtain ⟨hpass, htables, hexpander⟩ := h
    rw [← State.issuedSite_congr hpass htables hexpander, if_pos rfl, State.issue_eq]
    by_cases hp : portParked true (t.site i) = true
    · rw [if_pos hp, if_pos hp]
      exact .nothing rfl i
    · rw [if_neg hp, if_neg hp]
      exact rfl
  case other => rw [if_pos rfl, State.site_issue, if_neg hj]
  have hports : (allSites.flatMap fun i =>
      (if portParked true (s.site i) then [] else [(s.issuedSite c i (s.site i)).command]).map fun k => (i, k)) =
      (allSites.filter fun i => !portParked true (s.site i)).map fun i => (i, (s.issuedSite c i (s.site i)).command) := by
    induction allSites with
    | nil => rfl
    | cons i l ih =>
      rw [List.flatMap_cons, ih, List.filter_cons]
      cases portParked true (s.site i) <;> simp
  rw [← hports]
  exact hgiven

/-- When a READ is accepted into a queue (R21). -/
theorem acceptsRead_iff (queue : List Entry) (n : Half) : acceptsRead queue n = true ↔
    queue.length < 64 ∧ ∀ oldest newest : Entry, queue.head? = some oldest → queue.getLast? = some newest →
      1 ≤ (n - oldest.tag).toNat ∧ (n - oldest.tag).toNat ≤ 32767 ∧ (newest.tag - oldest.tag).toNat < (n - oldest.tag).toNat := by
  unfold acceptsRead tagDistance
  rw [Bool.and_eq_true, decide_eq_true_iff]
  refine and_congr_right fun _ => ?_
  split
  next h l hh hl =>
    rw [hh, hl, Bool.and_eq_true, Bool.and_eq_true, decide_eq_true_iff, decide_eq_true_iff, decide_eq_true_iff]
    refine ⟨fun ⟨⟨h₁, h₂⟩, h₃⟩ oldest newest ho hn => ?_, fun h' => ?_⟩
    · obtain rfl := Option.some.inj ho
      obtain rfl := Option.some.inj hn
      exact ⟨h₁, h₂, h₃⟩
    · obtain ⟨h₁, h₂, h₃⟩ := h' h l rfl rfl
      exact ⟨⟨h₁, h₂⟩, h₃⟩
  next hno => exact iff_of_true rfl fun oldest newest ho hn => absurd hn (hno oldest newest ho)

/-- The operation a code names, by the code's value (R14). -/
theorem operationOf_cases (code : Byte) : (operationOf code = .write ∧ code.toNat = 1) ∨ (operationOf code = .read ∧ code.toNat = 2) ∨
    (operationOf code = .nop ∧ code.toNat ≠ 1 ∧ code.toNat ≠ 2) := by
  unfold operationOf
  by_cases hwrite : code = 1
  · subst hwrite
    exact .inl ⟨rfl, rfl⟩
  · by_cases hread : code = 2
    · subst hread
      exact .inr (.inl ⟨rfl, rfl⟩)
    · refine .inr (.inr ⟨by rw [if_neg hwrite, if_neg hread], fun h => hwrite ?_, fun h => hread ?_⟩)
      · exact BitVec.eq_of_toNat_eq h
      · exact BitVec.eq_of_toNat_eq h

/-- The outcome of the frame at a site whose ages have advanced and whose number is tracked is that of the table of R20. -/
theorem issuedSite_portAfter (s : State) (c : Cycle) (i : SiteNo) {v : State} (hpass : v.pass = s.pass)
    (htables : v.tables = s.tables) (hexpander : v.expander = s.expander.track c.number) :
    v.issuedSite c i (Site.gapMarked (s.expander.gapAt c.number && s.pass.state == .opened)
      { s.site i with queue := ageQueue (s.site i).queue }) = portAfter s c i := by
  have hcongr := State.issuedSite_congr (s := { s with expander := s.expander.track c.number }) hpass htables hexpander c i
  rw [hcongr]
  unfold State.issuedSite portAfter Site.gapMarked
  generalize s.site i = x
  dsimp only
  cases hc : x.condition with
  | enabled =>
    cases hh : x.hold with
    | free =>
      obtain ⟨ho, hn⟩ | ⟨ho, hn⟩ | ⟨ho, hn₁, hn₂⟩ := operationOf_cases c.op
      · rw [ho, hn]
        rfl
      · rw [ho, hn]
        dsimp only
        split <;> rfl
      · rw [ho]
        generalize c.op.toNat = n at hn₁ hn₂
        match n with
        | 0 => rfl
        | 1 => exact absurd rfl hn₁
        | 2 => exact absurd rfl hn₂
        | n + 3 => rfl
    | pending =>
      obtain ⟨ho, hn⟩ | ⟨ho, hn⟩ | ⟨ho, hn₁, hn₂⟩ := operationOf_cases c.op
      · rw [ho, hn]
        by_cases hp : s.pass.state = .opened
        · simp [hp, Site.skip]
        · simp [hp]
      · rw [ho, hn]
        by_cases hp : s.pass.state = .opened
        · simp [hp, Site.skip]
        · simp [hp]
      · rw [ho]
        simp [hn₁, hn₂]
    | granted => rfl
  | disabled => rfl
  | dropped => rfl

/-- Settles O19, by the frame's outcome at each port after the ages and the number. -/
theorem cycleOutcomeAtEachPort : Obligations.CycleOutcomeAtEachPort := by
  unfold Obligations.CycleOutcomeAtEachPort
  intro c s hacts hnone
  let u : State := State.ageAll { s.begin.forward (cycleFrameOf c) .cycle with link := s.link.count .cycle }
  have husite (i : SiteNo) : u.site i = { s.site i with queue := ageQueue (s.site i).queue } := State.ageAll_site _ i
  have hpast (i : SiteNo) : ∀ e ∈ (u.site i).queue, e.past (u.expiryLimit i) = false := by
    rw [husite]
    exact hnone i
  have hexec : exec (.cycleFrame c) s = .next (u.expand c) :=
    congrArg Host.Outcome.next ((takeFrame_of_actsOn (cycleFrameOf c) (fun t => t.cycleSlot c) hacts).trans
      (cycleSlot_of_none_past c hpast).1)
  have honly := expand_only u c
  have htrack := trackCycle_only u c.number
  have hsite (i : SiteNo) : (u.expand c).site i = portAfter s c i := by
    rw [State.expand, State.site_issueWhere, if_pos rfl, State.site_trackCycle, husite]
    exact issuedSite_portAfter s c i (v := u.trackCycle c.number) htrack.pass htrack.tables htrack.expander
  have hcommand (i : SiteNo) : (u.trackCycle c.number).issuedSite c i ((u.trackCycle c.number).site i) = (u.expand c).site i := by
    rw [State.expand, State.site_issueWhere, if_pos rfl]
  have hparked (i : SiteNo) : portParked true ((u.trackCycle c.number).site i) = portParked true (s.site i) := by
    rw [State.site_trackCycle, husite]
    rfl
  have hout : (u.expand c).out = { u.out with commands := u.out.commands ++
      (allSites.filter fun i => !portParked true (s.site i)).map fun i => (i, ((u.expand c).site i).command) } := by
    have h := issueWhere_all_out (u.trackCycle c.number) c
    simp only [hparked, hcommand, State.trackCycle_out] at h
    exact h
  have hdown : u.out.down = some (cycleFrameOf c) ∧ u.out.commands = [] := ⟨rfl, rfl⟩
  refine ⟨_, hexec, hsite, ?down, ?commands, honly.link, honly.expander, honly.chainPos, honly.cause, honly.revision,
    honly.tables, honly.cal, honly.pass, honly.ret, honly.notice, honly.draws, honly.pending, rfl, acceptsRead_iff⟩
  case down => rw [hout]; exact hdown.1
  case commands => rw [hout, hdown.2]; rfl

end Sys2Proof.Machine
end

section
/-! PROOFS. Expansion and expiry in either order: the draws of the orders touch nothing else (R22, log entry 3). -/

namespace Sys2Proof.Machine

/-- An operation that leaves the draws of the orders to be counted before it or after it. -/
def Undrawing (op : State → State) : Prop := ∀ (s : State) (n : Nat), op (s.drawnBy n) = (op s).drawnBy n

/-- Two such operations, one after the other. -/
theorem Undrawing.comp {f g : State → State} (hg : Undrawing g) (hf : Undrawing f) : Undrawing fun s => g (f s) :=
  fun s n => by dsimp only; rw [hf, hg]

/-- Such an operation at every site of a list. -/
theorem foldl_undrawing {op : SiteNo → State → State} (h : ∀ i, Undrawing (op i)) (l : List SiteNo) :
    Undrawing fun s => l.foldl (fun s i => op i s) s := by
  induction l with
  | nil => exact fun _ _ => rfl
  | cons i l ih => exact ih.comp (h i)

/-- The tracking of a cycle number reads no draw (R15, R16). -/
theorem trackCycle_undrawing (n : Half) : Undrawing fun s => s.trackCycle n := by
  intro s d
  unfold State.trackCycle
  dsimp only
  have hsame : ((s.drawnBy d).expander.gapAt n && (s.drawnBy d).pass.state == .opened) =
      (s.expander.gapAt n && s.pass.state == .opened) := rfl
  by_cases h : (s.expander.gapAt n && s.pass.state == .opened) = true
  · rw [if_pos (hsame.trans h), if_pos h]
    rfl
  · rw [if_neg (mt hsame.symm.trans h), if_neg h]
    rfl

/-- The outcome of an expanded frame at a port reads no draw (R20, R21). -/
theorem issue_undrawing (c : Cycle) (i : SiteNo) : Undrawing fun s => s.issue c i := by
  intro s d
  have hsite : (s.drawnBy d).site i = s.site i := rfl
  have hissued : (s.drawnBy d).issuedSite c i (s.site i) = s.issuedSite c i (s.site i) :=
    State.issuedSite_congr (s := s) (t := s.drawnBy d) rfl rfl rfl c i _
  dsimp only
  rw [State.issue_eq, State.issue_eq, hsite, hissued]
  split <;> rfl

/-- The expansion at the ports named reads no draw (R20). -/
theorem issueWhere_undrawing (c : Cycle) (p : SiteNo → Bool) : Undrawing fun s => s.issueWhere c p :=
  foldl_undrawing (op := fun i t => if p i then t.issue c i else t) (fun i s d => by
    dsimp only
    split
    · exact issue_undrawing c i s d
    · rfl) allSites

/-- The expiry tests of a slot read no draw (R48). -/
theorem expireSites_undrawing : Undrawing State.expireSites :=
  foldl_undrawing (op := fun i t => t.expireSite i) (fun i s d => by
    have hsite : (s.drawnBy d).site i = s.site i := rfl
    have hlimit : (s.drawnBy d).expiryLimit i = s.expiryLimit i := rfl
    dsimp only
    rw [expireSite_eq, expireSite_eq, hsite, hlimit]
    rfl) allSites

/-- The end of a drain reads no draw (R99). -/
theorem settleDrain_undrawing : Undrawing State.settleDrain := by
  intro s d
  have h := (settleDrain_only s).redrawn (settleDrain_only (s.drawnBy d)) ⟨s.draws + d, rfl⟩
    (settleDrain_reported ⟨rfl, rfl, rfl, rfl, fun _ => rfl⟩)
  have hdraws : (s.drawnBy d).settleDrain.draws = s.settleDrain.draws + d := by
    rw [settleDrain_draws, settleDrain_draws]
    rfl
  rw [h, hdraws]
  rfl

/-- The slot of an expanded CYCLE in a given order reads no draw (R22). -/
theorem cycleInOrder_undrawing (c : Cycle) (before between : SiteNo → Bool) :
    Undrawing fun s => s.cycleInOrder c before between :=
  (issueWhere_undrawing c _).comp (settleDrain_undrawing.comp ((issueWhere_undrawing c _).comp
    (expireSites_undrawing.comp ((issueWhere_undrawing c before).comp (trackCycle_undrawing c.number)))))

/-- The slot of an expanded CYCLE in a given order draws nothing itself (R22). -/
theorem cycleInOrder_draws (s : State) (c : Cycle) (before between : SiteNo → Bool) :
    (s.cycleInOrder c before between).draws = s.draws := by
  unfold State.cycleInOrder
  dsimp only
  rw [(issueWhere_only _ c _).draws, settleDrain_draws, (issueWhere_only _ c _).draws, (expireSites_only _).draws,
    (issueWhere_only _ c _).draws, (trackCycle_only s c.number).draws]

/-- What the draws of a CYCLE frame's slot tell: with none, the expiry comes first; with some, an order at each site (R22). -/
theorem cycleSlot_orders (s : State) (c : Cycle) :
    ((s.cycleSlot c).draws = s.draws → s.cycleSlot c = s.expireAll.expand c) ∧
    ((s.cycleSlot c).draws ≠ s.draws → ∃ before between : SiteNo → Bool,
      { s.cycleSlot c with draws := s.draws } = s.cycleInOrder c before between) := by
  rw [(cycleSlot_keeps s c).2.2]
  unfold State.cycleSlot
  cases s.orderMatters c with
  | true =>
    rw [if_pos rfl, if_pos rfl]
    refine ⟨fun h => by omega, fun _ => ⟨fun i => s.drawAt i.val, fun i => s.drawAt (16 + i.val), ?_⟩⟩
    have h := cycleInOrder_undrawing c (fun i => s.drawAt i.val) (fun i => s.drawAt (16 + i.val)) s 32
    dsimp only at h
    rw [h]
    exact redraw_self (cycleInOrder_draws s c _ _)
  | false => exact ⟨fun _ => rfl, fun h => absurd rfl h⟩

/-- When a cycle number leaves a gap (R16). -/
theorem gapAt_iff (e : Expander) (n : Half) :
    e.gapAt n = true ↔ e.start = false ∧ n.toNat ≠ (e.last.toNat + 1) % 65536 := by
  have hnext : (e.last + 1).toNat = (e.last.toNat + 1) % 65536 := by rw [BitVec.toNat_add]; rfl
  unfold Expander.gapAt
  rw [Bool.and_eq_true, Bool.not_eq_true', bne_iff_ne, ← hnext, BitVec.toNat_ne_iff_ne]

/-- The 32-bit number of a cycle from the two words of the numbering (R15). -/
theorem extended_toNat (s : State) : s.extended.toNat = s.expander.upper.toNat * 65536 + s.expander.last.toNat := by
  rw [State.extended, BitVec.toNat_append, ← Nat.shiftLeft_add_eq_or_of_lt s.expander.last.isLt, Nat.shiftLeft_eq]

/-- The numbering after a frame, as numbers (R15, R16). -/
theorem track_toNat (e : Expander) (n : Half) :
    (e.track n).upper.toNat = (if e.start = false ∧ n.toNat < e.last.toNat then min 65535 (e.upper.toNat + 1) else e.upper.toNat) ∧
    (e.track n).gaps.toNat =
      if e.start = false ∧ n.toNat ≠ (e.last.toNat + 1) % 65536 then min 65535 (e.gaps.toNat + 1) else e.gaps.toNat := by
  unfold Expander.track
  dsimp only
  constructor
  · by_cases h : e.start = false ∧ n.toNat < e.last.toNat
    · rw [if_pos h, if_pos (by simpa using h), satAdd_toNat]
      rfl
    · rw [if_neg h, if_neg (by simpa using h)]
  · by_cases h : e.gapAt n = true
    · rw [if_pos h, if_pos ((gapAt_iff e n).1 h), satAdd_toNat]
      rfl
    · rw [if_neg h, if_neg (mt (gapAt_iff e n).2 h)]

/-- Settles O18, by the numbering of the slot and the draws of its orders. -/
theorem cyclesAreNumberedAndExpiryTakesEitherOrder : Obligations.CyclesAreNumberedAndExpiryTakesEitherOrder := by
  unfold Obligations.CyclesAreNumberedAndExpiryTakesEitherOrder
  have hexec (c : Cycle) (s : State) (hacts : s.actsOn .cycle) : exec (.cycleFrame c) s =
      .next (State.cycleSlot (State.ageAll { s.begin.forward (cycleFrameOf c) .cycle with link := s.link.count .cycle }) c) :=
    congrArg Host.Outcome.next (takeFrame_of_actsOn (cycleFrameOf c) (fun t => t.cycleSlot c) hacts)
  refine ⟨fun c s hacts => ⟨_, hexec c s hacts, ?numbered⟩, gapAt_iff, fun c s hacts => ?_⟩
  case numbered =>
    obtain ⟨u, hu⟩ : ∃ u, State.ageAll { s.begin.forward (cycleFrameOf c) .cycle with link := s.link.count .cycle } = u := ⟨_, rfl⟩
    have hu' : u.expander = s.expander := by rw [← hu]; rfl
    rw [hu]
    obtain ⟨hupper, hgaps⟩ := track_toNat s.expander c.number
    rw [extended_toNat, (cycleSlot_keeps u c).1, hu']
    exact ⟨rfl, rfl, hupper, hgaps, rfl⟩
  intro u issued expired inOrder
  have hexecu : exec (.cycleFrame c) s = .next (u.cycleSlot c) := hexec c s hacts
  obtain ⟨hplain, hordered⟩ := cycleSlot_orders u c
  have hdraws : u.draws = s.draws := rfl
  refine ⟨_, hexecu, fun h => hplain (h.trans hdraws.symm), fun h => ?_, fun hnone => ?_⟩
  · obtain ⟨before, between, horder⟩ := hordered fun e => h (e.trans hdraws)
    exact ⟨before, between, horder⟩
  · exact (cycleSlot_of_none_past c hnone).1

end Sys2Proof.Machine
end

section
/-! PROOFS. The Link Receiver's counts for every frame taken in LIVE (R136, R137, R141, R142). -/

namespace Sys2Proof.Machine

/-- A frame arrives as bad exactly when its check fails (R131). -/
theorem arrivalOf_eq_bad_iff (f : Frame) : arrivalOf f = .bad ↔ frameGood f = false := by
  cases hgood : frameGood f with
  | false => exact iff_of_true (arrivalOf_bad hgood) rfl
  | true =>
    refine iff_of_false (fun h => ?_) nofun
    rw [arrivalOf, hgood, if_pos rfl] at h
    split at h <;> exact nomatch h

/-- The link after a frame acted on in LIVE: its counts, with the exercise errors of a frame whose kind reads EXERCISE and the unknown kinds (R136, R137, R141, R142). -/
def LinkRx.actedOn (l : LinkRx) (f : Frame) : LinkRx :=
  { l.count (arrivalOf f) with
    unknownKinds := if frameGood f ∧ 4 < f.kind.toNat then satAdd l.unknownKinds 1 else l.unknownKinds
    exerciseErrors :=
      if f.kind = 0x04 then
        satAdd l.exerciseErrors (((exerciseSequence (half f.body 0)).zip (f.body.drop 2)).countP fun x => x.1 != x.2)
      else l.exerciseErrors }

/-- The link of a frame acted on whose kind is neither EXERCISE nor unknown: its counts alone. -/
theorem LinkRx.actedOn_of_plain (l : LinkRx) {f : Frame} (hkind : f.kind.toNat < 4) :
    l.actedOn f = l.count (arrivalOf f) := by
  have hexercise : f.kind ≠ 0x04 := fun h => by rw [h] at hkind; exact absurd hkind (by decide)
  rw [LinkRx.actedOn, if_neg fun h => absurd h.2 (by omega), if_neg hexercise]
  rfl

/-- The exercise errors of a bad frame that the part acts on: those of a frame whose kind byte reads EXERCISE (R137, R142). -/
theorem State.badAct_link (s : State) {f : Frame} (hlen : f.body.length = 29) :
    (s.badAct f).link = { s.link with
      exerciseErrors :=
        if f.kind = 0x04 then
          satAdd s.link.exerciseErrors (((exerciseSequence (half f.body 0)).zip (f.body.drop 2)).countP fun x => x.1 != x.2)
        else s.link.exerciseErrors } := by
  have hdrop : (f.body.drop 2).length = 27 := by rw [List.length_drop, hlen]
  unfold State.badAct
  by_cases h : f.kind = 0x04
  · rw [if_pos h, if_pos (by exact h), State.exercise_link, exerciseErrorCount_of_length _ hdrop]
  · rw [if_neg h, if_neg (by exact h)]

/-- The link after any frame that the part acts on, a CONTROL frame that it takes apart (R136, R137, R141, R142). -/
theorem exec_decodeFrame_link {s : State} {f : Frame} (hf : wholeFrame f = true) (hacts : s.actsOn (arrivalOf f) = true)
    (hcontrol : frameGood f = true → f.kind = 0x03 → s.takes { addr := f.body.getD 0 0, tag := f.body.getD 2 0 } = false) :
    Reaches (exec (decodeFrame f) s) fun t => t.link = s.link.actedOn f := by
  have hlen : f.body.length = 29 := by simpa only [wholeFrame, beq_iff_eq] using hf
  have hdrop : (f.body.drop 2).length = 27 := by rw [List.length_drop, hlen]
  cases hgood : frameGood f with
  | false =>
    have harrival := arrivalOf_bad hgood
    have hrow : decodeFrame f = .badFrame f := if_neg (by rw [hgood]; exact Bool.false_ne_true)
    rw [harrival] at hacts
    refine ⟨_, by rw [hrow]; exact exec_badFrame_of_actsOn f hacts, ?_⟩
    beta_reduce
    rw [State.badAct_link _ hlen, State.slotOf_link, LinkRx.actedOn, harrival, hgood]
    rfl
  | true =>
    obtain ⟨hkind, hrow, ha⟩ | ⟨hkind, hrow, ha⟩ | ⟨hkind, hrow, ha⟩ | ⟨hkind, hrow, ha⟩ | ⟨hkind, hrow, ha⟩ | ⟨hkind, hrow, ha⟩ :=
      decodeFrame_cases hgood
    · rw [ha] at hacts
      refine ⟨_, by rw [hrow]; exact congrArg Host.Outcome.next (takeFrame_of_actsOn _ _ hacts), ?_⟩
      rw [LinkRx.actedOn_of_plain _ (by omega), ha]
      exact State.plainSlot_link _
    · rw [ha] at hacts
      refine ⟨_, by rw [hrow]; exact congrArg Host.Outcome.next (takeFrame_of_actsOn _ _ hacts), ?_⟩
      rw [LinkRx.actedOn_of_plain _ (by omega), ha]
      exact State.plainSlot_link _
    · rw [ha] at hacts
      refine ⟨_, by rw [hrow]; exact congrArg Host.Outcome.next (takeFrame_of_actsOn _ _ hacts), ?_⟩
      rw [LinkRx.actedOn_of_plain _ (by omega), ha]
      exact (cycleSlot_keeps _ _).2.1
    · rw [ha] at hacts
      have hk : f.kind = 0x03 := BitVec.eq_of_toNat_eq hkind
      have hdecoded := controlOf_decodeControl hlen
      refine ⟨_, by
        rw [hrow, exec_control hdecoded, takeControl_of_actsOn _ _ hacts, request_of_not_taken]
        rw [State.controlSlot_takes, hcontrol hgood hk], ?_⟩
      beta_reduce
      rw [LinkRx.actedOn_of_plain _ (by omega), ha, State.controlSlot, State.slotOf_link]
      rfl
    · rw [ha] at hacts
      have hk : f.kind = 0x04 := BitVec.eq_of_toNat_eq hkind
      refine ⟨_, by rw [hrow]; exact congrArg Host.Outcome.next (takeFrame_of_actsOn _ _ hacts), ?_⟩
      beta_reduce
      rw [State.exercise_link, State.plainSlot_link, exerciseErrorCount_of_length _ hdrop, LinkRx.actedOn, if_pos hk, ha,
        if_neg fun h => absurd h.2 (by omega)]
      rfl
    · rw [ha] at hacts
      have hk : f.kind ≠ 0x04 := fun h => by rw [h] at hkind; exact absurd hkind (by decide)
      refine ⟨_, by rw [hrow]; exact congrArg Host.Outcome.next (takeFrame_of_actsOn _ _ hacts), ?_⟩
      dsimp only
      rw [State.plainSlot_link, LinkRx.actedOn, if_neg hk, ha, if_pos ⟨hgood, hkind⟩]
      rfl

/-- When a frame is an in-place ALIGN of the recorded K, bit by bit (R136). -/
theorem LinkRx.inPlace_eq {l : LinkRx} {k : Byte} (hk : l.k = some k) (a : Arrival) : l.inPlace a =
    (l.nextPosition == 0 && match a with
      | .align k' _ => k' == k && decide (4 ≤ k'.toNat) && decide (k'.toNat ≤ 32)
      | _ => false) := by
  unfold LinkRx.inPlace
  rw [hk]
  cases a with
  | align k' count =>
    have hvalid : validK k' = (decide (4 ≤ k'.toNat) && decide (k'.toNat ≤ 32)) := rfl
    have hsame : (some k == some k') = (k' == k) := by rw [Option.some_beq_some, BEq.comm]
    dsimp only
    rw [hvalid, hsame, Bool.and_assoc, Bool.and_comm _ (k' == k), Bool.and_assoc]
  | _ => exact (Bool.and_false _).symm

/-- Settles O11, by the counts of the frame and, unless a run reaches its limit, what it does to the link besides. -/
theorem liveFramesAreCounted : Obligations.LiveFramesAreCounted := by
  unfold Obligations.LiveFramesAreCounted
  intro f s k p hf hlive hk hp hcontrol position inPlace miss misses errors lost
  have hposition : s.link.nextPosition = position := by rw [LinkRx.nextPosition, hk, hp]; rfl
  have hinPlace : s.link.inPlace (arrivalOf f) = inPlace := by
    have h := LinkRx.inPlace_eq hk (arrivalOf f)
    rw [hposition] at h
    exact h
  have hmiss : s.link.misses (arrivalOf f) = miss := by
    have h : s.link.misses (arrivalOf f) = if s.link.nextPosition = 0 then !s.link.inPlace (arrivalOf f)
        else match arrivalOf f with
          | .align _ _ => true
          | _ => false := rfl
    rw [hposition, hinPlace] at h
    exact h
  have hlast : (s.link.count (arrivalOf f)).lastCount = match arrivalOf f with
      | .align _ count => if inPlace then some count else s.link.lastCount
      | _ => s.link.lastCount := by
    have h : (s.link.count (arrivalOf f)).lastCount = match arrivalOf f with
        | .align _ count => if s.link.inPlace (arrivalOf f) then some count else s.link.lastCount
        | _ => s.link.lastCount := rfl
    rw [hinPlace] at h
    exact h
  have hmisses : (s.link.count (arrivalOf f)).missRun = misses := by
    rw [LinkRx.count]
    dsimp only
    rw [hinPlace, hmiss]
  have hbad (x y : Nat) : (if arrivalOf f = .bad then x else y) = if frameGood f then y else x := by
    simp only [arrivalOf_eq_bad_iff]
    cases frameGood f <;> rfl
  have herrors : (s.link.count (arrivalOf f)).errorRun = errors := hbad _ _
  have hlost : (s.link.count (arrivalOf f)).lossDue = lost := by
    rw [LinkRx.lossDue, hmisses, herrors]
  have hchecks : (s.link.count (arrivalOf f)).checkErrors =
      if frameGood f then s.link.checkErrors else satAdd s.link.checkErrors 1 := by
    rw [LinkRx.count]
    simp only [arrivalOf_eq_bad_iff]
    cases frameGood f <;> rfl
  have hheld : (s.link.count (arrivalOf f)).position = some position := congrArg some hposition
  clear_value lost errors misses miss inPlace position
  cases hl : lost with
  | false =>
    have hacts : s.actsOn (arrivalOf f) = true := by rw [State.actsOn, hlive, hlost, hl]; rfl
    obtain ⟨t, hexec, ht⟩ := exec_decodeFrame_link hf hacts hcontrol
    refine ⟨t, hexec, ?_⟩
    beta_reduce
    rw [ht, LinkRx.actedOn]
    refine ⟨hk, hlast, hchecks, ?_, ?_, hlive, hheld, hmisses, herrors⟩
    · simp only [and_true]
    · simp only [and_true]
  | true =>
    obtain ⟨act, -, hexec⟩ := takesFrame_decodeFrame hf
    have hloss : s.begin.takeFrame f (arrivalOf f) act =
        (State.ageAll { s.begin.forward f (arrivalOf f) with link := s.link.count (arrivalOf f) }).linkLoss :=
      takeFrame_loss s.begin f _ act hlive (hlost.trans hl)
    refine ⟨_, (hexec s).trans (congrArg _ hloss), ?_⟩
    beta_reduce
    rw [State.linkLoss_link]
    refine ⟨hk, hlast, hchecks, ?_, ?_, rfl, rfl, rfl, rfl⟩
    · exact (if_neg fun h => Bool.noConfusion h.2.2).symm
    · exact (if_neg fun h => Bool.noConfusion h.2).symm

end Sys2Proof.Machine
end

section
/-! PROOFS. One entry of a WRITE TABLE, table by table: its checks, its clamps and what it changes (R1 to R11, R62, R197, section 10.7). -/

namespace Sys2Proof.Machine

/-- A 16-bit field as a number, from its two bytes (section 10.7). -/
theorem half_toNat (l : List Byte) (i : Nat) : (half l i).toNat = (l.getD i 0).toNat * 256 + (l.getD (i + 1) 0).toNat := by
  rw [half, BitVec.toNat_append, ← Nat.shiftLeft_add_eq_or_of_lt (l.getD (i + 1) 0).isLt, Nat.shiftLeft_eq]

/-- A field is clamped exactly when it lies outside its range (R9). -/
theorem outside_iff (low high x : Nat) : outside low high x = true ↔ x < low ∨ high < x := by
  rw [outside, Bool.or_eq_true, decide_eq_true_iff, decide_eq_true_iff]

/-- Two fields of which one is clamped (R9). -/
theorem outside_or_iff (low high x low' high' y : Nat) :
    (outside low high x || outside low' high' y) = true ↔ (x < low ∨ high < x) ∨ y < low' ∨ high' < y := by
  rw [Bool.or_eq_true, outside_iff, outside_iff]

/-- A number brought into the range of a field that holds it. -/
theorem ofNat_clampNat_toNat {w low high : Nat} (h : low ≤ high) (hw : high < 2 ^ w) (x : Nat) :
    (BitVec.ofNat w (clampNat low high x)).toNat = max low (min high x) := by
  rw [clampNat_eq h, BitVec.toNat_ofNat, Nat.mod_eq_of_lt (by omega)]

/-- A member of a vector once it was replaced. -/
theorem vector_get_set_self {α : Type} {n : Nat} (v : Vector α n) (i : Fin n) (x : α) : (v.set i x).get i = x := by
  rw [vector_get_set, if_pos rfl]

/-- An entry that is accepted, with what is said of the tables after it and of its CLAMPED indication (R9). -/
def State.Keeps (s : State) (e : Written) (P : Tables → Bool → Prop) : Prop :=
  ∃ (t : Tables) (clamped : Bool), e = .ok ({ s with tables := t }, clamped) ∧ P t clamped

section
variable (s : State) (b : List Byte)

/-- An index beyond the last one is refused (R9). -/
theorem writeEntry_of_beyond {t : TableId} {index : Nat} (h : t.lastIndex < index) :
    s.writeEntry t index b = .error .badIndex := if_pos h

/-- An eye selector of a TIMING entry: two codes (section 10.7). -/
theorem eyeOf_spec (x : Byte) :
    (1 < x.toNat → eyeOf x = none) ∧ (x.toNat ≤ 1 → eyeOf x = some (if x.toNat = 0 then .early else .late)) := by
  unfold eyeOf
  by_cases hearly : x = 0
  · subst hearly
    exact ⟨fun h => absurd h (by decide), fun _ => rfl⟩
  · have hzero : x.toNat ≠ 0 := fun h => hearly (BitVec.eq_of_toNat_eq h)
    rw [if_neg hearly]
    by_cases hlate : x = 1
    · subst hlate
      exact ⟨fun h => absurd h (by decide), fun _ => rfl⟩
    · have hone : x.toNat ≠ 1 := fun h => hlate (BitVec.eq_of_toNat_eq h)
      rw [if_neg hlate]
      exact ⟨fun _ => rfl, fun h => absurd h (by omega)⟩

/-- A TIMING entry (R1, R9). -/
theorem writeTiming_spec (k : Fin 16) :
    (1 < (b.getD 4 0).toNat → s.writeTiming k.val b = .error .badCode) ∧
    ((b.getD 4 0).toNat ≤ 1 → s.Keeps (s.writeTiming k.val b) fun t clamped =>
      (t.timing.get k).drive.toNat = min 1023 (half b 0).toNat ∧ (t.timing.get k).base.toNat = min 1023 (half b 2).toNat ∧
      (t.timing.get k).eye = (if (b.getD 4 0).toNat = 0 then .early else .late) ∧
      t = { s.tables with timing := s.tables.timing.set k (t.timing.get k) } ∧
      (clamped = true ↔ 1023 < (half b 0).toNat ∨ 1023 < (half b 2).toNat)) := by
  obtain ⟨hbad, hgood⟩ := eyeOf_spec (b.getD 4 0)
  unfold State.writeTiming
  refine ⟨fun h => by rw [hbad h], fun h => ?_⟩
  rw [hgood h]
  simp only [Fin.ofNat_val_eq_self]
  refine ⟨_, _, rfl, ?_, ?_, ?_, ?_, ?_⟩
  · dsimp only
    rw [vector_get_set_self, ofNat_clampNat_toNat (by decide) (by decide), Nat.zero_max]
  · dsimp only
    rw [vector_get_set_self, ofNat_clampNat_toNat (by decide) (by decide), Nat.zero_max]
  · dsimp only
    rw [vector_get_set_self]
  · dsimp only
    rw [vector_get_set_self]
  · rw [outside_or_iff]
    simp only [Nat.not_lt_zero, false_or]

/-- The lane check of a TRIM entry, read apart (R11). -/
theorem State.laneCheck_iff (k : SiteNo) :
    s.laneCheck k = true ↔ (s.site k).lane = .online ∧ ¬(s.cal.spare = .training ∧ s.cal.target = some k) := by
  rw [State.laneCheck, Bool.and_eq_true, Bool.not_eq_true', Bool.and_eq_false_iff, beq_iff_eq, beq_eq_false_iff_ne,
    beq_eq_false_iff_ne, not_and_or]

/-- A TRIM entry (R5, R9, R11, R197). -/
theorem writeTrim_spec (k : Fin 16) :
    (1 < (b.getD 3 0).toNat → s.writeTrim k.val b = .error .badCode) ∧
    ((b.getD 3 0).toNat = 0 → s.laneCheck k = false → s.writeTrim k.val b = .error .busy) ∧
    ((b.getD 3 0).toNat = 0 → s.laneCheck k = true → s.Keeps (s.writeTrim k.val b) fun t clamped =>
      (t.trim.get k).early = b.getD 0 0 ∧ (t.trim.get k).late = b.getD 1 0 ∧
      (t.trim.get k).latency = max 4 (min 63 (b.getD 2 0).toNat) ∧ (t.trim.get k).phase.val = min 63 (b.getD 4 0).toNat ∧
      t = { s.tables with trim := s.tables.trim.set k (t.trim.get k) } ∧
      (clamped = true ↔ (b.getD 2 0).toNat < 4 ∨ 63 < (b.getD 2 0).toNat ∨ 63 < (b.getD 4 0).toNat)) ∧
    ((b.getD 3 0).toNat = 1 → s.Keeps (s.writeTrim k.val b) fun t clamped =>
      (t.trim.get k).early = b.getD 0 0 ∧ (t.trim.get k).late = b.getD 1 0 ∧
      (t.trim.get k).latency = max 4 (min 63 (b.getD 2 0).toNat) ∧ (t.trim.get k).phase = (s.trim k).phase ∧
      t = { s.tables with trim := s.tables.trim.set k (t.trim.get k) } ∧
      (clamped = true ↔ (b.getD 2 0).toNat < 4 ∨ 63 < (b.getD 2 0).toNat)) := by
  unfold State.writeTrim
  simp only [Fin.ofNat_val_eq_self]
  refine ⟨fun h => ?_, fun h hlane => ?_, fun h hlane => ?_, fun h => ?_⟩
  · split
    next h0 => omega
    next h1 => omega
    next => rfl
  · rw [h, hlane]
    rfl
  · rw [h, hlane]
    refine ⟨_, _, rfl, ?_, ?_, ?_, ?_, ?_, ?_⟩
    · dsimp only
      rw [vector_get_set_self]
    · dsimp only
      rw [vector_get_set_self]
    · dsimp only
      rw [vector_get_set_self, clampNat_eq (by decide)]
    · dsimp only
      rw [vector_get_set_self, clampNat_eq (Nat.zero_le 63), Nat.zero_max, Fin.val_ofNat, Nat.mod_eq_of_lt (by omega)]
    · dsimp only
      rw [vector_get_set_self]
    · rw [outside_or_iff]
      simp only [Nat.not_lt_zero, false_or, or_assoc]
  · rw [h]
    refine ⟨_, _, rfl, ?_, ?_, ?_, ?_, ?_, ?_⟩
    · dsimp only
      rw [vector_get_set_self]
    · dsimp only
      rw [vector_get_set_self]
    · dsimp only
      rw [vector_get_set_self, clampNat_eq (by decide)]
    · dsimp only
      rw [vector_get_set_self]
    · dsimp only
      rw [vector_get_set_self]
    · exact outside_iff 4 63 _

/-- A CAL_ORDER entry (R6, R9). -/
theorem writeOrder_spec (k : Fin 16) :
    (15 < (b.getD 0 0).toNat → s.writeOrder k.val b = .error .badIndex) ∧
    (∀ i : SiteNo, (b.getD 0 0).toNat = i.val →
      s.writeOrder k.val b = .ok ({ s with tables := { s.tables with order := s.tables.order.set k i } }, false)) ∧
    s.Keeps (s.writeOrder 16 b) fun t clamped =>
      t = { s.tables with orderLength := max 1 (min 16 (b.getD 0 0).toNat) } ∧
      (clamped = true ↔ (b.getD 0 0).toNat = 0 ∨ 16 < (b.getD 0 0).toNat) := by
  have hk : k.val ≠ 16 := by omega
  unfold State.writeOrder
  dsimp only
  rw [if_neg hk, if_pos rfl]
  refine ⟨fun h => by rw [if_pos h], fun i h => ?_, _, _, rfl, ?_, ?_⟩
  · simp only [h, if_neg (Nat.not_lt.2 (Nat.le_of_lt_succ i.isLt)), Fin.ofNat_val_eq_self]
  · rw [clampNat_eq (by decide)]
  · rw [outside_iff, Nat.lt_one_iff]

/-- The CAL_PARAM entry (R7, R9). -/
theorem writeParam_spec : s.Keeps (s.writeParam b) fun t clamped =>
    t.reload.toNat = max 1 (half b 0).toNat ∧ t.soak.toNat = max 256 (min 4096 (half b 2).toNat) ∧
    t = { s.tables with reload := t.reload, soak := t.soak } ∧
    (clamped = true ↔ (half b 0).toNat = 0 ∨ (half b 2).toNat < 256 ∨ 4096 < (half b 2).toNat) := by
  have hreload := (half b 0).isLt
  refine ⟨_, _, rfl, ?_, ?_, rfl, ?_⟩
  · rw [ofNat_clampNat_toNat (by decide) (by decide), Nat.min_eq_right (by omega)]
  · exact ofNat_clampNat_toNat (by decide) (by decide) _
  · rw [outside_or_iff]
    omega

/-- A scramble source read from its code, and the codes of no source (section 10.7). -/
theorem sourceOf_spec (x : Byte) :
    (31 < x.toNat → x.toNat ≠ 0x40 → x.toNat ≠ 0x41 → sourceOf x = none) ∧ ∀ source, x = source.code → sourceOf x = some source := by
  refine ⟨fun h h₀ h₁ => ?_, fun source h => ?_⟩
  · have hzero : x ≠ 0x40 := fun e => h₀ (by rw [e]; rfl)
    have hone : x ≠ 0x41 := fun e => h₁ (by rw [e]; rfl)
    rw [sourceOf, if_neg (by omega), if_neg hzero, if_neg hone]
  · subst h
    cases source with
    | logical n =>
      have hcode : (byteOf n.val).toNat = n.val := by simp only [byteOf, BitVec.toNat_ofNat]; omega
      rw [BitSource.code, sourceOf, hcode, if_pos n.isLt, Fin.ofNat_val_eq_self]
    | const0 => rfl
    | const1 => rfl

/-- A topology selector read from its code, and the codes of no selector (section 10.7). -/
theorem selectorOf_spec (x : Byte) :
    (27 < x.toNat → selectorOf x = none) ∧ ∀ selector, x = selector.code → selectorOf x = some selector := by
  refine ⟨fun h => by rw [selectorOf, if_neg (by omega), if_neg (by omega)], fun selector h => ?_⟩
  subst h
  cases selector with
  | row n =>
    have hcode : (byteOf n.val).toNat = n.val := by simp only [byteOf, BitVec.toNat_ofNat]; omega
    rw [Selector.code, selectorOf, hcode, if_pos n.isLt, Fin.ofNat_val_eq_self]
  | col n =>
    have hcode : (byteOf (n.val + 16)).toNat = n.val + 16 := by simp only [byteOf, BitVec.toNat_ofNat]; omega
    rw [Selector.code, selectorOf, hcode, if_neg (by omega), if_pos (by omega), Nat.add_sub_cancel, Fin.ofNat_val_eq_self]

/-- A SCRAMBLE entry (R2, R9). -/
theorem writeScramble_spec (k : Fin 31) :
    (31 < (b.getD 0 0).toNat → (b.getD 0 0).toNat ≠ 0x40 → (b.getD 0 0).toNat ≠ 0x41 →
      s.writeScramble k.val b = .error .badCode) ∧
    (∀ source : BitSource, b.getD 0 0 = source.code → s.writeScramble k.val b = .ok ({ s with tables :=
      { s.tables with scramble := s.tables.scramble.set k { source := source, invert := (b.getD 1 0).getLsbD 0 } } }, false)) := by
  obtain ⟨hbad, hgood⟩ := sourceOf_spec (b.getD 0 0)
  unfold State.writeScramble
  refine ⟨fun h h₀ h₁ => by rw [hbad h h₀ h₁], fun source h => ?_⟩
  rw [hgood source h]
  simp only [Fin.ofNat_val_eq_self]
  rfl

/-- A SELECTOR entry (R3, R9). -/
theorem writeSelector_spec (k : Fin 8) :
    (27 < (b.getD 0 0).toNat → s.writeSelector k.val b = .error .badCode) ∧
    (∀ x : Selector, b.getD 0 0 = x.code →
      s.writeSelector k.val b = .ok ({ s with tables := { s.tables with selector := s.tables.selector.set k x } }, false)) := by
  obtain ⟨hbad, hgood⟩ := selectorOf_spec (b.getD 0 0)
  unfold State.writeSelector
  refine ⟨fun h => by rw [hbad h], fun x h => ?_⟩
  rw [hgood x h]
  simp only [Fin.ofNat_val_eq_self]

/-- A REGION entry (R62, R9). -/
theorem writeRegion_spec (k : Fin 8) : s.Keeps (s.writeRegion k.val b) fun t clamped =>
    t = { s.tables with region := s.tables.region.set k { sr := min 4 (b.getD 0 0).toNat, sc := min 4 (b.getD 1 0).toNat } } ∧
    (clamped = true ↔ 4 < (b.getD 0 0).toNat ∨ 4 < (b.getD 1 0).toNat) := by
  refine ⟨_, _, rfl, ?_, ?_⟩
  · simp only [Fin.ofNat_val_eq_self, clampNat_eq (Nat.zero_le 4), Nat.zero_max]
  · rw [outside_or_iff]
    simp only [Nat.not_lt_zero, false_or]

/-- A TOPOLOGY entry (R4). -/
theorem writeTopology_spec (k : Fin 256) : s.Keeps (s.writeTopology k.val b) fun t clamped =>
    (t.topology.get k).toNat = (half b 0).toNat ∧
    t = { s.tables with topology := s.tables.topology.set k (t.topology.get k) } ∧ clamped = false := by
  unfold State.writeTopology
  simp only [Fin.ofNat_val_eq_self]
  refine ⟨_, _, rfl, ?_, ?_, rfl⟩
  · dsimp only
    rw [vector_get_set_self]
  · dsimp only
    rw [vector_get_set_self]

end

/-- Settles O48, table by table. -/
theorem tableEntriesAreCheckedAndClamped : Obligations.TableEntriesAreCheckedAndClamped := by
  unfold Obligations.TableEntriesAreCheckedAndClamped
  intro s index b byte wide keeps
  have hwide (i : Nat) : wide i = (half b i).toNat := (half_toNat b i).symm
  have hbyte (i : Nat) : byte i = (b.getD i 0).toNat := rfl
  simp only [hwide, hbyte]
  refine ⟨fun t h => writeEntry_of_beyond s b h, fun k hk => ?_, fun h => ?_, fun h => ?_, fun k hk => ?_, fun k hk => ?_, fun k hk => ?_⟩
  · subst hk
    have htiming : s.writeEntry .timing k.val b = s.writeTiming k.val b := if_neg (Nat.not_lt.2 (Nat.le_of_lt_succ k.isLt))
    have htrim : s.writeEntry .trim k.val b = s.writeTrim k.val b := if_neg (Nat.not_lt.2 (Nat.le_of_lt_succ k.isLt))
    have horder : s.writeEntry .calOrder k.val b = s.writeOrder k.val b := if_neg (Nat.not_lt.2 (Nat.le_of_lt k.isLt))
    rw [htiming, htrim, horder]
    obtain ⟨hcode, heye⟩ := writeTiming_spec s b k
    obtain ⟨hchoice, hbusy, hvalue, hkeep⟩ := writeTrim_spec s b k
    obtain ⟨hrange, hsite, -⟩ := writeOrder_spec s b k
    exact ⟨hcode, heye, hchoice, hbusy, hvalue, hkeep, s.laneCheck_iff k, hrange, hsite⟩
  · subst h
    exact (writeOrder_spec s b 0).2.2
  · subst h
    exact writeParam_spec s b
  · subst hk
    have hscramble : s.writeEntry .scramble k.val b = s.writeScramble k.val b := if_neg (Nat.not_lt.2 (Nat.le_of_lt_succ k.isLt))
    rw [hscramble]
    exact writeScramble_spec s b k
  · subst hk
    have hselector : s.writeEntry .selector k.val b = s.writeSelector k.val b := if_neg (Nat.not_lt.2 (Nat.le_of_lt_succ k.isLt))
    have hregion : s.writeEntry .region k.val b = s.writeRegion k.val b := if_neg (Nat.not_lt.2 (Nat.le_of_lt_succ k.isLt))
    rw [hselector, hregion]
    obtain ⟨hcode, hvalue⟩ := writeSelector_spec s b k
    exact ⟨hcode, hvalue, writeRegion_spec s b k⟩
  · subst hk
    have htopology : s.writeEntry .topology k.val b = s.writeTopology k.val b := if_neg (Nat.not_lt.2 (Nat.le_of_lt_succ k.isLt))
    rw [htopology]
    exact writeTopology_spec s b k

end Sys2Proof.Machine
end

section
/-! PROOFS. A run of table entries read and written back (R9, R12, section 10.7). -/

namespace Sys2Proof.Machine

/-- A field within its limits stays as it is and is not clamped (R9). -/
theorem clampNat_of_within {low high x : Nat} (hlow : low ≤ x) (hhigh : x ≤ high) :
    clampNat low high x = x ∧ outside low high x = false := by
  refine ⟨by rw [clampNat_eq (hlow.trans hhigh)]; omega, ?_⟩
  rw [Bool.eq_false_iff, ne_eq, outside_iff]
  omega

/-- A member of a vector replaced by itself. -/
theorem vector_set_get {α : Type} {n : Nat} (v : Vector α n) (i : Fin n) : v.set i (v.get i) = v :=
  Vector.set_getElem_self i.isLt

/-- A timing code in the 16 bits of its field (section 10.7). -/
theorem timingCode_toNat (x : TimingCode) : (x.setWidth 16).toNat = x.toNat ∧ x.toNat ≤ 1023 := by
  have hx := x.isLt
  exact ⟨by rw [BitVec.toNat_setWidth, Nat.mod_eq_of_lt (by omega)], by omega⟩

/-- A small number in its byte (section 10.7). -/
theorem byteOf_toNat {n : Nat} (h : n < 256) : (byteOf n).toNat = n := by
  rw [byteOf, BitVec.toNat_ofNat, Nat.mod_eq_of_lt h]

/-- An eye selector read from its code (section 10.7). -/
theorem eyeOf_code (x : Eye) : eyeOf x.code = some x := by cases x <;> rfl

section
variable (s : State) (index : Nat)

/-- A TIMING entry written as it was read (R1, R12). -/
theorem writeTiming_readEntry : s.writeTiming index (s.readEntry .timing index) = .ok (s, false) := by
  let x := s.tables.timing.get (Fin.ofNat 16 index)
  have hread : s.readEntry .timing index = be16 (x.drive.setWidth 16) ++ (be16 (x.base.setWidth 16) ++ [x.eye.code]) := rfl
  have hdrive : half (s.readEntry .timing index) 0 = x.drive.setWidth 16 := by rw [hread, half_be16]
  have hbase : half (s.readEntry .timing index) 2 = x.base.setWidth 16 := by
    rw [hread, half_be16_append _ _ 0, half_be16]
  have heye : eyeOf ((s.readEntry .timing index).getD 4 0) = some x.eye := eyeOf_code x.eye
  obtain ⟨hdriveNat, hdriveLe⟩ := timingCode_toNat x.drive
  obtain ⟨hbaseNat, hbaseLe⟩ := timingCode_toNat x.base
  obtain ⟨hdriveClamp, hdriveIn⟩ := clampNat_of_within (Nat.zero_le _) hdriveLe
  obtain ⟨hbaseClamp, hbaseIn⟩ := clampNat_of_within (Nat.zero_le _) hbaseLe
  unfold State.writeTiming
  rw [heye]
  dsimp only
  rw [hdrive, hbase, hdriveNat, hbaseNat, hdriveClamp, hbaseClamp, hdriveIn, hbaseIn, BitVec.ofNat_toNat, BitVec.ofNat_toNat,
    BitVec.setWidth_eq, BitVec.setWidth_eq]
  exact congrArg (fun v => Except.ok ({ s with tables := { s.tables with timing := v } }, false))
    (vector_set_get s.tables.timing (Fin.ofNat 16 index))

/-- A SCRAMBLE entry written as it was read (R2, R12). -/
theorem writeScramble_readEntry : s.writeScramble index (s.readEntry .scramble index) = .ok (s, false) := by
  let x := s.tables.scramble.get (Fin.ofNat 31 index)
  have hsource : sourceOf ((s.readEntry .scramble index).getD 0 0) = some x.source := (sourceOf_spec _).2 _ rfl
  have hinvert : bitOf ((s.readEntry .scramble index).getD 1 0) 0 = x.invert := by
    show (byteOf (bitNat x.invert 0)).getLsbD 0 = x.invert
    cases x.invert <;> rfl
  unfold State.writeScramble
  rw [hsource]
  dsimp only
  rw [hinvert]
  exact congrArg (fun v => Except.ok ({ s with tables := { s.tables with scramble := v } }, false))
    (vector_set_get s.tables.scramble (Fin.ofNat 31 index))

/-- A SELECTOR entry written as it was read (R3, R12). -/
theorem writeSelector_readEntry : s.writeSelector index (s.readEntry .selector index) = .ok (s, false) := by
  have hselector : selectorOf ((s.readEntry .selector index).getD 0 0) =
      some (s.tables.selector.get (Fin.ofNat 8 index)) := (selectorOf_spec _).2 _ rfl
  unfold State.writeSelector
  rw [hselector]
  exact congrArg (fun v => Except.ok ({ s with tables := { s.tables with selector := v } }, false))
    (vector_set_get s.tables.selector (Fin.ofNat 8 index))

/-- A TOPOLOGY entry written as it was read (R4, R12). -/
theorem writeTopology_readEntry : s.writeTopology index (s.readEntry .topology index) = .ok (s, false) := by
  have hhalf : half (s.readEntry .topology index) 0 = s.tables.topology.get (Fin.ofNat 256 index) := half_be16 _ []
  unfold State.writeTopology
  rw [hhalf]
  exact congrArg (fun v => Except.ok ({ s with tables := { s.tables with topology := v } }, false))
    (vector_set_get s.tables.topology (Fin.ofNat 256 index))

variable {s}

/-- A REGION entry written as it was read (R12, R62). -/
theorem writeRegion_readEntry (h : s.tables.inRange = true) :
    s.writeRegion index (s.readEntry .region index) = .ok (s, false) := by
  let x := s.tables.region.get (Fin.ofNat 8 index)
  obtain ⟨-, hregion, -⟩ := (Tables.inRange_iff _).1 h
  obtain ⟨hsr, hsc⟩ : x.sr ≤ 4 ∧ x.sc ≤ 4 := hregion _
  have hrow : ((s.readEntry .region index).getD 0 0).toNat = x.sr := byteOf_toNat (Nat.lt_of_le_of_lt hsr (by decide))
  have hcol : ((s.readEntry .region index).getD 1 0).toNat = x.sc := byteOf_toNat (Nat.lt_of_le_of_lt hsc (by decide))
  obtain ⟨hrowClamp, hrowIn⟩ := clampNat_of_within (Nat.zero_le _) hsr
  obtain ⟨hcolClamp, hcolIn⟩ := clampNat_of_within (Nat.zero_le _) hsc
  unfold State.writeRegion
  dsimp only
  rw [hrow, hcol, hrowClamp, hcolClamp, hrowIn, hcolIn]
  exact congrArg (fun v => Except.ok ({ s with tables := { s.tables with region := v } }, false))
    (vector_set_get s.tables.region (Fin.ofNat 8 index))

/-- A TRIM entry written as it was read, where its lane check passes (R5, R11, R12, R197). -/
theorem writeTrim_readEntry (h : s.tables.inRange = true) (hlane : s.laneCheck (Fin.ofNat 16 index) = true) :
    s.writeTrim index (s.readEntry .trim index) = .ok (s, false) := by
  let x := s.trim (Fin.ofNat 16 index)
  obtain ⟨htrim, -⟩ := (Tables.inRange_iff _).1 h
  obtain ⟨hlow, hhigh⟩ : 4 ≤ x.latency ∧ x.latency ≤ 63 := htrim _
  have hlatency : ((s.readEntry .trim index).getD 2 0).toNat = x.latency := byteOf_toNat (Nat.lt_of_le_of_lt hhigh (by decide))
  have hphase : ((s.readEntry .trim index).getD 4 0).toNat = x.phase.val := byteOf_toNat (by omega)
  have hchoice : ((s.readEntry .trim index).getD 3 0).toNat = 0 := rfl
  have hearly : (s.readEntry .trim index).getD 0 0 = x.early := rfl
  have hlate : (s.readEntry .trim index).getD 1 0 = x.late := rfl
  obtain ⟨hlatencyClamp, hlatencyIn⟩ := clampNat_of_within hlow hhigh
  obtain ⟨hphaseClamp, hphaseIn⟩ := clampNat_of_within (Nat.zero_le _) (Nat.le_of_lt_succ x.phase.isLt)
  unfold State.writeTrim
  dsimp only
  rw [hchoice, hlatency, hphase, hearly, hlate, hlatencyClamp, hlatencyIn, hphaseClamp, hphaseIn, hlane, Fin.ofNat_val_eq_self]
  exact congrArg (fun v => Except.ok ({ s with tables := { s.tables with trim := v } }, false))
    (vector_set_get s.tables.trim (Fin.ofNat 16 index))

/-- A CAL_ORDER entry written as it was read (R6, R12). -/
theorem writeOrder_readEntry (h : s.tables.inRange = true) :
    s.writeOrder index (s.readEntry .calOrder index) = .ok (s, false) := by
  obtain ⟨-, -, ⟨hlow, hhigh⟩, -⟩ := (Tables.inRange_iff _).1 h
  unfold State.writeOrder State.readEntry
  dsimp only
  by_cases hlength : index = 16
  · obtain ⟨hclamp, hin⟩ := clampNat_of_within hlow hhigh
    rw [if_pos hlength, if_pos hlength, List.getD_cons_zero, byteOf_toNat (by omega), hclamp, hin]
  · rw [if_neg hlength, if_neg hlength, List.getD_cons_zero, byteOf_toNat (by omega), if_neg (by omega), Fin.ofNat_val_eq_self]
    exact congrArg (fun v => Except.ok ({ s with tables := { s.tables with order := v } }, false))
      (vector_set_get s.tables.order (Fin.ofNat 16 index))

/-- The CAL_PARAM entry written as it was read (R7, R12). -/
theorem writeParam_readEntry (h : s.tables.inRange = true) :
    s.writeParam (s.readEntry .calParam index) = .ok (s, false) := by
  obtain ⟨-, -, -, hreload, hsoakLow, hsoakHigh⟩ := (Tables.inRange_iff _).1 h
  have hreloadRead : half (s.readEntry .calParam index) 0 = s.tables.reload := half_be16 _ _
  have hsoakRead : half (s.readEntry .calParam index) 2 = s.tables.soak := half_be16 _ []
  obtain ⟨hreloadClamp, hreloadIn⟩ := clampNat_of_within hreload (Nat.le_of_lt_succ s.tables.reload.isLt)
  obtain ⟨hsoakClamp, hsoakIn⟩ := clampNat_of_within hsoakLow hsoakHigh
  unfold State.writeParam
  dsimp only
  rw [hreloadRead, hsoakRead, hreloadClamp, hsoakClamp, hreloadIn, hsoakIn, BitVec.ofNat_toNat, BitVec.ofNat_toNat,
    BitVec.setWidth_eq, BitVec.setWidth_eq]
  rfl

/-- Any entry of a writable table written as it was read (R12). -/
theorem writeEntry_readEntry {id : TableId} (hid : id ≠ .factoryPhase) (hindex : index ≤ id.lastIndex)
    (h : s.tables.inRange = true) (hlane : id = .trim → s.laneCheck (Fin.ofNat 16 index) = true) :
    s.writeEntry id index (s.readEntry id index) = .ok (s, false) := by
  unfold State.writeEntry
  rw [if_neg (Nat.not_lt.2 hindex)]
  cases id with
  | timing => exact writeTiming_readEntry s index
  | scramble => exact writeScramble_readEntry s index
  | selector => exact writeSelector_readEntry s index
  | topology => exact writeTopology_readEntry s index
  | region => exact writeRegion_readEntry index h
  | trim => exact writeTrim_readEntry index h (hlane rfl)
  | calOrder => exact writeOrder_readEntry index h
  | calParam => exact writeParam_readEntry index h
  | factoryPhase => exact absurd rfl hid

end

/-- A run of entries each of which is written as it stands leaves the part as it is (R9, R12). -/
theorem writeEntries_readEntry {s : State} {id : TableId} (n : Nat) : ∀ (index applied : Nat),
    (∀ j < n, s.writeEntry id (index + j) (s.readEntry id (index + j)) = .ok (s, false)) →
    s.writeEntries id n index ((List.range n).map fun j => s.readEntry id (index + j)).flatten applied false =
      { state := s, status := .accepted, applied := applied + n, clamped := false } := by
  induction n with
  | zero => exact fun _ _ _ => rfl
  | succ n ih =>
    intro index applied h
    have hbytes : ((List.range (n + 1)).map fun j => s.readEntry id (index + j)).flatten =
        s.readEntry id index ++ ((List.range n).map fun j => s.readEntry id (index + 1 + j)).flatten := by
      rw [List.range_succ_eq_map, List.map_cons, List.flatten_cons, List.map_map]
      simp only [Nat.add_zero, Function.comp_def, Nat.succ_eq_add_one, Nat.add_assoc, Nat.add_comm 1]
    have hlength := s.readEntry_length id index
    have hfirst := h 0 (Nat.succ_pos n)
    rw [Nat.add_zero] at hfirst
    have hrest := ih (index + 1) (applied + 1) fun j hj => by
      have hj' := h (j + 1) (Nat.succ_lt_succ hj)
      rwa [Nat.add_comm j 1, ← Nat.add_assoc] at hj'
    unfold State.writeEntries
    rw [hbytes, List.take_left' hlength, List.drop_left' hlength, hfirst]
    dsimp only
    rw [Bool.or_false, hrest, Nat.add_assoc, Nat.add_comm 1 n]

/-- Settles O49, entry by entry. -/
theorem readRunWritesBackUnchanged : Obligations.ReadRunWritesBackUnchanged := by
  unfold Obligations.ReadRunWritesBackUnchanged
  intro s id table start hid hfactory hstart hrange hlane
  let n := id.readCount start.toNat
  have hn : 1 ≤ n ∧ n ≤ 23 / id.entrySize ∧ start.toNat + n ≤ id.lastIndex + 1 := by
    have hsize : 1 ≤ id.perFrame := by cases id <;> decide
    simp only [n, TableId.readCount, TableId.perFrame] at hsize ⊢
    omega
  obtain ⟨hpos, hframe, hlast⟩ := hn
  have hlong : 23 / id.entrySize ≤ 23 := Nat.div_le_self _ _
  have hcount : (byteOf n).toNat = n := byteOf_toNat (by omega)
  have hread : s.readTable table start =
      (.accepted, start :: byteOf n :: ((List.range n).map fun j => s.readEntry id (start.toNat + j)).flatten) := by
    rw [State.readTable, hid]
    exact if_neg (Nat.not_lt.2 hstart)
  have hentry (j : Nat) (hj : j < n) :
      s.writeEntry id (start.toNat + j) (s.readEntry id (start.toNat + j)) = .ok (s, false) := by
    refine writeEntry_readEntry _ hfactory (by omega) hrange fun htrim => ?_
    subst htrim
    have hfour : n ≤ 4 := hframe
    have hsite : (Fin.ofNat 16 (start.toNat + j)).val = start.toNat + j :=
      Nat.mod_eq_of_lt (by simp only [TableId.lastIndex] at hlast; omega)
    exact hlane rfl _ (by omega) (by omega)
  clear_value n
  refine ⟨byteOf n, _, hread, ?_, ?_, ?_, ?_⟩
  · rw [hcount]
    exact hpos
  · rw [hcount]
    exact hframe
  · rw [hcount, List.length_flatten, List.map_map]
    have hlengths : (List.length ∘ fun j => s.readEntry id (start.toNat + j)) = fun _ => id.entrySize :=
      funext fun j => s.readEntry_length id _
    rw [hlengths, List.map_const', List.sum_replicate, List.length_range, smul_eq_mul]
  · have hrun := writeEntries_readEntry n start.toNat 0 hentry
    rw [Nat.zero_add] at hrun
    rw [State.writeTable, hid, hcount]
    dsimp only
    rw [if_neg hfactory, Bool.and_false, if_neg Bool.false_ne_true, TableId.perFrame,
      if_neg (Nat.not_lt.2 hframe), hrun]

end Sys2Proof.Machine
end
